-- ==== Sys2Proof/Word.lean ====
section
/-! DEFINITION. The words of the machine: 64-bit carriers for XLEN-bit and FLEN-bit values, bytes, instruction words. -/

namespace Sys2Proof

/-- The carrier of an XLEN-bit or FLEN-bit value. When XLEN (FLEN) is 32 the value is the low half and the
high half is zero (DESIGN CHOICE, safe: notes/assumptions/2.md). -/
abbrev Word := BitVec 64

/-- The unit of addressing (R46). -/
abbrev Byte := BitVec 8

/-- An instruction word: every instruction in scope has 32 bits (R90). -/
abbrev Insn := BitVec 32

end Sys2Proof
end

