-- ==== Sys2Proof/Config.lean ====
section
/-! DEFINITION. The configuration record of the spec (R7), and the free values the spec leaves open. -/

namespace Sys2Proof

/-- `XLEN` (R7, D3): the width of the integer registers, of `pc` and of addresses. -/
inductive Xlen where
  | rv32
  | rv64
  deriving DecidableEq, Repr

/-- `IALIGN` (R7, D13): the alignment in bits that a jump target needs. -/
inductive Ialign where
  | i16
  | i32
  deriving DecidableEq, Repr

/-- `MISALIGNED` (R7, R62, D2): a misaligned load or store traps, or is performed as separate byte accesses. -/
inductive Misaligned where
  | trap
  | split
  deriving DecidableEq, Repr

/-- D12: an exception enters the machine-mode handler (R372), or ends the run (the terminal fault of R377). The state
holds `mcause`, `mtval` and `mtvec` under both (DESIGN CHOICE, notes/assumptions/35.md). -/
inductive TrapOption where
  | full
  | terminal
  deriving DecidableEq, Repr

/-- One region of `MemMap` (R7, R67, R68): plain memory with its rights. -/
structure Region where
  base : Nat
  size : Nat
  readable : Bool
  writable : Bool
  executable : Bool
  deriving DecidableEq, Repr

/-- One stretch of `CODE` (R7, R48): bytes that hold the program and are immutable during a run. -/
structure Span where
  base : Nat
  size : Nat
  deriving DecidableEq, Repr

/-- `Numerics` (R7): which record of functions computes the rounded results. State is plain data, so the field names
the record and Machine/Numerics.lean, `numericsOf`, gives it: the IEEE 754-2008 functions of file 40, which is R7's
default, or one of the records `Config.otherNumerics`, of which nothing is known (notes/assumptions/24.md). -/
inductive NumericsChoice where
  | ieee754
  | other (id : Nat)
  deriving DecidableEq, Repr

/-- The configuration record of R7. It is held in the machine's state as plain data that no step changes (R48;
notes/assumptions/1.md), so that a statement about every state is a statement about every configuration. -/
structure Config where
  xlen : Xlen
  hasD : Bool
  hasA : Bool
  hasU : Bool
  ialign : Ialign
  misaligned : Misaligned
  memMap : List Region
  resetPc : Word
  code : List Span
  /-- `HALT` (R420, D28): the address at which a run ends, if any. -/
  halt : Option Word
  traps : TrapOption
  numerics : NumericsChoice
  deriving DecidableEq, Repr

/-- The configuration of `State.reset`. R7's default where R7 gives one; the OPEN parameters are DESIGN CHOICE:
XLEN 64 (log 1), one region over the whole space (log 3), RESET_PC 0x1000 (log 4), no program (log 5), no HALT
address and the full trap option (log 6). Unsafe: no statement rests on these values. -/
def Config.initial : Config where
  xlen := .rv64
  hasD := true
  hasA := true
  hasU := false
  ialign := .i32
  misaligned := .trap
  memMap := [⟨0, 2 ^ 64, true, true, true⟩]
  resetPc := 0x1000
  code := []
  halt := none
  traps := .full
  numerics := .ieee754

/-- The free values: nothing constrains `freeWord n`. The state's counter `draws` says which one is used next.
Used where the spec draws a value: `FS` after an instruction that changed no floating-point state (I13, log 12),
`MPP` after a write of an unsupported mode (I12, log 13), which bytes a faulting split store wrote (R62, log 14). -/
opaque Config.freeWord : Nat → BitVec 64

end Sys2Proof
end

