-- ==== Sys2Proof/Machine/Formats.lean ====
section
/-! DEFINITION. The floating-point formats, rounding modes, value classes and exact reals of file 40. -/

namespace Sys2Proof.Machine

/-- `F32` and `F64` (R130, R131). -/
inductive Fmt where
  | single
  | double
  deriving DecidableEq, Repr

/-- The width of a pattern in bits (R130, R131). -/
@[reducible] def Fmt.width : Fmt → Nat
  | .single => 32
  | .double => 64

/-- The width of the exponent field `E` (R130, R131). -/
def Fmt.expBits : Fmt → Nat
  | .single => 8
  | .double => 11

/-- The width `t = p - 1` of the fraction field `T` (R130, R131). -/
def Fmt.fracBits : Fmt → Nat
  | .single => 23
  | .double => 52

/-- The exponent bias, equal to `emax` (R130, R131). -/
def Fmt.emax : Fmt → Int
  | .single => 127
  | .double => 1023

/-- The least normal exponent (R130, R131). -/
def Fmt.emin : Fmt → Int
  | .single => -126
  | .double => -1022

/-- The five rounding modes (R32). -/
inductive RoundingMode where
  /-- To nearest, ties to even. -/
  | rne
  /-- Towards zero. -/
  | rtz
  /-- Down, towards minus infinity. -/
  | rdn
  /-- Up, towards plus infinity. -/
  | rup
  /-- To nearest, ties to max magnitude. -/
  | rmm
  deriving DecidableEq, Repr

/-- A 5-bit mask of the accrued exception flags (R31). -/
abbrev FFlags := BitVec 5

/-- The value of a pattern (R132): a NaN, an infinity with its sign, or the finite `(-1)^neg × mant × 2^exp`, whose
sign is kept when `mant = 0`. -/
inductive Val where
  | nan (signaling : Bool)
  | inf (neg : Bool)
  | fin (neg : Bool) (mant : Nat) (exp : Int)
  deriving DecidableEq, Repr

/-- The ten classes of the `fclass` table, in its order (R210). -/
inductive FpClass where
  | negInf
  | negNormal
  | negSubnormal
  | negZero
  | posZero
  | posSubnormal
  | posNormal
  | posInf
  | signalingNan
  | quietNan
  deriving DecidableEq, Repr

/-- An exact real that is not negative: `num / den`, or the square root of `num / den`. Enough for the exact results of
the operations, none of which is rounded before `roundF` (R137). -/
inductive Mag where
  | ratio (num den : Nat)
  | root (num den : Nat)
  deriving DecidableEq, Repr

/-- The relations of the three compares (R200). -/
inductive Rel where
  | eq
  | lt
  | le
  deriving DecidableEq, Repr

/-- The record of functions of R7 and D10 that a configuration may swap: what file 40 calls `round_F`, `add_F`, `sub_F`,
`mul_F`, `div_F`, `sqrt_F`, `fma_F` and the conversions of file 43. Each gives a result and its flags. `round` rounds
`(-1)^neg × m`; no instruction names it (the other functions of an instance are built from it). -/
structure Numerics where
  round : (F : Fmt) → RoundingMode → (neg : Bool) → (m : Mag) → BitVec F.width × FFlags
  add : (F : Fmt) → RoundingMode → (a b : BitVec F.width) → BitVec F.width × FFlags
  sub : (F : Fmt) → RoundingMode → (a b : BitVec F.width) → BitVec F.width × FFlags
  mul : (F : Fmt) → RoundingMode → (a b : BitVec F.width) → BitVec F.width × FFlags
  div : (F : Fmt) → RoundingMode → (a b : BitVec F.width) → BitVec F.width × FFlags
  sqrt : (F : Fmt) → RoundingMode → (a : BitVec F.width) → BitVec F.width × FFlags
  fma : (F : Fmt) → RoundingMode → (a b c : BitVec F.width) → BitVec F.width × FFlags
  /-- `to_int` (R220). -/
  toInt : (F : Fmt) → RoundingMode → (a : BitVec F.width) → (N : Nat) → (signed : Bool) → BitVec N × FFlags
  /-- `from_int` (R222). -/
  fromInt : (F : Fmt) → RoundingMode → (n : Int) → BitVec F.width × FFlags
  /-- Double to single (R245). -/
  narrow : RoundingMode → BitVec 64 → BitVec 32 × FFlags
  /-- Single to double (R246). -/
  widen : BitVec 32 → BitVec 64 × FFlags
  deriving Inhabited

end Sys2Proof.Machine

/-- The records of functions other than the default: nothing constrains them (notes/assumptions/24.md). -/
opaque Sys2Proof.Config.otherNumerics : Nat → Sys2Proof.Machine.Numerics
end

