-- ==== Sys2Proof/Machine/Flags.lean ====
section
/-! DEFINITION. The accrued floating-point exception flags (R31, R140 to R144): the only condition flags of the machine. -/

namespace Sys2Proof.Machine

/-- No flag. -/
def flagNone : FFlags := 0b00000
/-- NX, inexact (R31). -/
def flagNX : FFlags := 0b00001
/-- UF, underflow (R31). -/
def flagUF : FFlags := 0b00010
/-- OF, overflow (R31). -/
def flagOF : FFlags := 0b00100
/-- DZ, divide by zero (R31). -/
def flagDZ : FFlags := 0b01000
/-- NV, invalid operation (R31). -/
def flagNV : FFlags := 0b10000

/-- The flag `m` when `b`, else none. -/
def flagIf (b : Bool) (m : FFlags) : FFlags := if b then m else flagNone

/-- `fflags` within `fcsr[7:0]` (R30, R33). -/
def fcsrFlags (v : BitVec 8) : FFlags := v.extractLsb' 0 5

/-- `frm` within `fcsr[7:0]` (R30, R33). -/
def fcsrFrm (v : BitVec 8) : BitVec 3 := v.extractLsb' 5 3

/-- `fcsr[7:0]` from its two parts (R30). -/
def fcsrMake (frm : BitVec 3) (fl : FFlags) : BitVec 8 := frm ++ fl

/-- `fflags |= m` on `fcsr[7:0]` (R16, R140). -/
def fcsrAccrue (v : BitVec 8) (m : FFlags) : BitVec 8 := v ||| m.setWidth 8

end Sys2Proof.Machine
end

