-- ==== Sys2Proof/Machine/Numerics.lean ====
section
/-! DEFINITION. The floating-point numerics common to F and D (file 40) and the shared definitions of files 41, 42, 43:
exact arithmetic on naturals and integers, rounded once. These functions are the default instance of `Numerics` (R7,
D10), which `numericsOf` selects by the configuration (notes/assumptions/24.md). -/

namespace Sys2Proof.Machine

/-! ### Patterns (R130 to R134) -/

/-- The pattern with the given fields. -/
def fpPack (F : Fmt) (neg : Bool) (E T : Nat) : BitVec F.width :=
  BitVec.ofNat F.width ((if neg then 2 ^ (F.width - 1) else 0) + E * 2 ^ F.fracBits + T)

/-- The biased exponent field `E` (R130, R131). -/
def fpExp (F : Fmt) (b : BitVec F.width) : Nat := b.toNat / 2 ^ F.fracBits % 2 ^ F.expBits

/-- The fraction field `T` (R130, R131). -/
def fpFrac (F : Fmt) (b : BitVec F.width) : Nat := b.toNat % 2 ^ F.fracBits

/-- `Emax = 2^w - 1`, the exponent field of infinities and NaNs (R132). -/
def fpExpMax (F : Fmt) : Nat := 2 ^ F.expBits - 1

/-- `val(b)` (R132). -/
def fpVal (F : Fmt) (b : BitVec F.width) : Val :=
  let E := fpExp F b
  let T := fpFrac F b
  let t : Int := F.fracBits
  if E = fpExpMax F then
    if T = 0 then .inf b.msb else .nan (!T.testBit (F.fracBits - 1))
  else if E = 0 then .fin b.msb T (F.emin - t)
  else .fin b.msb (2 ^ F.fracBits + T) (E - F.emax - t)

/-- The class of a pattern (R132, R210). -/
def fpClassOf (F : Fmt) (b : BitVec F.width) : FpClass :=
  let E := fpExp F b
  let T := fpFrac F b
  if E = fpExpMax F then
    if T = 0 then if b.msb then .negInf else .posInf
    else if T.testBit (F.fracBits - 1) then .quietNan else .signalingNan
  else if E = 0 then
    if T = 0 then if b.msb then .negZero else .posZero
    else if b.msb then .negSubnormal else .posSubnormal
  else if b.msb then .negNormal else .posNormal

/-- The canonical NaN (R133). -/
def fpNan (F : Fmt) : BitVec F.width := fpPack F false (fpExpMax F) (2 ^ (F.fracBits - 1))
/-- The infinity of a sign (R132). -/
def fpInf (F : Fmt) (neg : Bool) : BitVec F.width := fpPack F neg (fpExpMax F) 0
/-- The zero of a sign (R132). -/
def fpZero (F : Fmt) (neg : Bool) : BitVec F.width := fpPack F neg 0 0
/-- The largest finite number of a sign (R132). -/
def fpMaxFinite (F : Fmt) (neg : Bool) : BitVec F.width := fpPack F neg (fpExpMax F - 1) (2 ^ F.fracBits - 1)

/-- The pattern with only the sign bit set. -/
def signMask (F : Fmt) : BitVec F.width := BitVec.twoPow F.width (F.width - 1)
/-- `neg`: the sign bit flipped (R192). -/
def fpNeg (F : Fmt) (b : BitVec F.width) : BitVec F.width := b ^^^ signMask F
/-- The pattern `a` with its sign bit replaced (R281 to R286). -/
def fpWithSign (F : Fmt) (neg : Bool) (a : BitVec F.width) : BitVec F.width :=
  (a &&& ~~~ signMask F) ||| (if neg then signMask F else 0)

/-! ### Exact reals -/

/-- The integer square root, one bit of the root at a time, from bit `k` down. -/
def isqrtGo (n : Nat) : Nat → Nat → Nat
  | 0, acc => if (acc + 1) * (acc + 1) ≤ n then acc + 1 else acc
  | k + 1, acc =>
    let c := acc + 2 ^ (k + 1)
    isqrtGo n k (if c * c ≤ n then c else acc)

/-- The floor of the square root. -/
def isqrt (n : Nat) : Nat := isqrtGo n (n.log2 / 2 + 1) 0

/-- `m × 2^k`. -/
def magScale (m : Mag) (k : Int) : Mag :=
  match m with
  | .ratio n d => if 0 ≤ k then .ratio (n * 2 ^ k.toNat) d else .ratio n (d * 2 ^ (-k).toNat)
  | .root n d => if 0 ≤ k then .root (n * 4 ^ k.toNat) d else .root n (d * 4 ^ (-k).toNat)

/-- The floor. -/
def magFloor : Mag → Nat
  | .ratio n d => n / d
  | .root n d => isqrt (n / d)

/-- Whether the real is an integer. -/
def magIsInt : Mag → Bool
  | .ratio n d => n % d == 0
  | .root n d => d * (isqrt (n / d) * isqrt (n / d)) == n

/-- The ceiling. -/
def magCeil (m : Mag) : Nat := if magIsInt m then magFloor m else magFloor m + 1

/-- The real against its floor plus one half. -/
def magHalf : Mag → Ordering
  | .ratio n d => compare (2 * (n % d)) d
  | .root n d =>
    let q := isqrt (n / d)
    compare (4 * n) (d * ((2 * q + 1) * (2 * q + 1)))

/-- Whether the real is below `2^k`. -/
def magLtPow2 (m : Mag) (k : Int) : Bool := magFloor (magScale m (-k)) == 0

/-- `floor(log2 m)` for `m > 0`. -/
def magLog2 : Mag → Int
  | .ratio n d =>
    let l : Int := (n.log2 : Int) - (d.log2 : Int)
    if magLtPow2 (.ratio n d) l then l - 1 else l
  | .root n d =>
    let l : Int := (n.log2 : Int) - (d.log2 : Int)
    (if magLtPow2 (.ratio n d) l then l - 1 else l) / 2

/-- `k × 2^e`. -/
def magOf (k : Nat) (e : Int) : Mag := magScale (.ratio k 1) e

/-! ### Rounding (R137 to R139) -/

/-- `rint(mode, s, u)` (R137). -/
def rint (mode : RoundingMode) (neg : Bool) (u : Mag) : Nat :=
  match mode with
  | .rne =>
    match magHalf u with
    | .lt => magFloor u
    | .gt => magFloor u + 1
    | .eq => if magFloor u % 2 = 0 then magFloor u else magFloor u + 1
  | .rmm => if magHalf u = .lt then magFloor u else magFloor u + 1
  | .rtz => magFloor u
  | .rdn => if neg then magCeil u else magFloor u
  | .rup => if neg then magFloor u else magCeil u

/-- `enc_F(s, m)` (R134). -/
def fpEnc (F : Fmt) (neg : Bool) (m : Mag) : BitVec F.width :=
  let t : Int := F.fracBits
  if m = .ratio 0 1 then fpZero F neg
  else if magLtPow2 m F.emin then fpPack F neg 0 (magFloor (magScale m (t - F.emin)))
  else
    let e := magLog2 m
    fpPack F neg (e + F.emax).toNat (magFloor (magScale m (t - e)) - 2 ^ F.fracBits)

/-- `overflow_F(mode, s)` (R138). -/
def fpOverflow (F : Fmt) (mode : RoundingMode) (neg : Bool) : BitVec F.width :=
  match mode with
  | .rne => fpInf F neg
  | .rmm => fpInf F neg
  | .rtz => fpMaxFinite F neg
  | .rdn => if neg then fpInf F neg else fpMaxFinite F neg
  | .rup => if neg then fpMaxFinite F neg else fpInf F neg

/-- `round_F(mode, r)` for `r = (-1)^neg × m`, `m > 0` (R137): `mU` is the result with unbounded exponent range, `mB`
the result delivered; overflow and tininess (after rounding) are read from them. -/
def fpRound (F : Fmt) (mode : RoundingMode) (neg : Bool) (m : Mag) : BitVec F.width × FFlags :=
  let t : Int := F.fracBits
  let e := magLog2 m
  let mU := magOf (rint mode neg (magScale m (t - e))) (e - t)
  let eB := max e F.emin
  let kB := rint mode neg (magScale m (t - eB))
  let mB := magOf kB (eB - t)
  if !magLtPow2 mB (F.emax + 1) then (fpOverflow F mode neg, flagOF ||| flagNX)
  else
    let inexact := !magIsInt (magScale m (t - eB))
    let tiny := magLtPow2 mU F.emin
    (if kB = 0 then fpZero F neg else fpEnc F neg mB,
      flagIf inexact flagNX ||| flagIf (tiny && inexact) flagUF)

/-! ### Exact sums and products of finite values -/

/-- `(-1)^neg × mant` as an integer. -/
def signedMant (neg : Bool) (mant : Nat) : Int := if neg then -(mant : Int) else mant

/-- The integer `z` for which `z × 2^(min ea eb)` is `za × 2^ea + zb × 2^eb`. -/
def alignedSum (za : Int) (ea : Int) (zb : Int) (eb : Int) : Int :=
  za * 2 ^ (ea - min ea eb).toNat + zb * 2 ^ (eb - min ea eb).toNat

/-- The rounded `z × 2^e` for `z` not zero. -/
def fpRoundInt (F : Fmt) (mode : RoundingMode) (z : Int) (e : Int) : BitVec F.width × FFlags :=
  fpRound F mode (decide (z < 0)) (magOf z.natAbs e)

/-- The sign of an exact zero sum of operands that are not two zeros of one sign: minus only under RDN (R146). -/
def zeroSumNeg (mode : RoundingMode) : Bool := mode == .rdn

/-- Whether a value is a signaling NaN. -/
def Val.isSignaling : Val → Bool
  | .nan sg => sg
  | _ => false

/-- Whether a value is a NaN. -/
def Val.isNan : Val → Bool
  | .nan _ => true
  | _ => false

/-- The canonical NaN with NV: an invalid operation (R141). -/
def fpInvalid (F : Fmt) : BitVec F.width × FFlags := (fpNan F, flagNV)

/-- The NaN result of an operation with a NaN operand (R145): NV only for a signaling one. -/
def fpNanResult (F : Fmt) (signaling : Bool) : BitVec F.width × FFlags := (fpNan F, flagIf signaling flagNV)

/-! ### The operations (R146, R147, R168) -/

/-- The sum of two values (R146, R168). -/
def valAdd (F : Fmt) (mode : RoundingMode) (a b : Val) : BitVec F.width × FFlags :=
  match a, b with
  | .nan sa, b => fpNanResult F (sa || b.isSignaling)
  | .inf _, .nan sb => fpNanResult F sb
  | .fin _ _ _, .nan sb => fpNanResult F sb
  | .inf sa, .inf sb => if sa = sb then (fpInf F sa, flagNone) else fpInvalid F
  | .inf sa, .fin _ _ _ => (fpInf F sa, flagNone)
  | .fin _ _ _, .inf sb => (fpInf F sb, flagNone)
  | .fin sa ma ea, .fin sb mb eb =>
    let z := alignedSum (signedMant sa ma) ea (signedMant sb mb) eb
    if z = 0 then
      if ma = 0 ∧ mb = 0 ∧ sa = sb then (fpZero F sa, flagNone) else (fpZero F (zeroSumNeg mode), flagNone)
    else fpRoundInt F mode z (min ea eb)

/-- `add_F` (R168). -/
def fpAdd (F : Fmt) (mode : RoundingMode) (a b : BitVec F.width) : BitVec F.width × FFlags :=
  valAdd F mode (fpVal F a) (fpVal F b)

/-- `sub_F`: the sum with the sign bit of `b` flipped first (R146, R168). -/
def fpSub (F : Fmt) (mode : RoundingMode) (a b : BitVec F.width) : BitVec F.width × FFlags :=
  fpAdd F mode a (fpNeg F b)

/-- `mul_F` (R146, R168). -/
def fpMul (F : Fmt) (mode : RoundingMode) (a b : BitVec F.width) : BitVec F.width × FFlags :=
  match fpVal F a, fpVal F b with
  | .nan sa, vb => fpNanResult F (sa || vb.isSignaling)
  | .inf _, .nan sb => fpNanResult F sb
  | .fin _ _ _, .nan sb => fpNanResult F sb
  | .inf sa, .inf sb => (fpInf F (sa ^^ sb), flagNone)
  | .inf sa, .fin sb mb _ => if mb = 0 then fpInvalid F else (fpInf F (sa ^^ sb), flagNone)
  | .fin sa ma _, .inf sb => if ma = 0 then fpInvalid F else (fpInf F (sa ^^ sb), flagNone)
  | .fin sa ma ea, .fin sb mb eb =>
    if ma = 0 ∨ mb = 0 then (fpZero F (sa ^^ sb), flagNone)
    else fpRound F mode (sa ^^ sb) (magOf (ma * mb) (ea + eb))

/-- `div_F` (R142, R146, R168). -/
def fpDiv (F : Fmt) (mode : RoundingMode) (a b : BitVec F.width) : BitVec F.width × FFlags :=
  match fpVal F a, fpVal F b with
  | .nan sa, vb => fpNanResult F (sa || vb.isSignaling)
  | .inf _, .nan sb => fpNanResult F sb
  | .fin _ _ _, .nan sb => fpNanResult F sb
  | .inf _, .inf _ => fpInvalid F
  | .inf sa, .fin sb _ _ => (fpInf F (sa ^^ sb), flagNone)
  | .fin sa _ _, .inf sb => (fpZero F (sa ^^ sb), flagNone)
  | .fin sa ma ea, .fin sb mb eb =>
    if mb = 0 then if ma = 0 then fpInvalid F else (fpInf F (sa ^^ sb), flagDZ)
    else if ma = 0 then (fpZero F (sa ^^ sb), flagNone)
    else fpRound F mode (sa ^^ sb) (magScale (.ratio ma mb) (ea - eb))

/-- The square root of `m × 2^e` as an exact real. -/
def magSqrt (m : Nat) (e : Int) : Mag :=
  if 0 ≤ e then .root (m * 2 ^ e.toNat) 1 else .root m (2 ^ (-e).toNat)

/-- `sqrt_F` (R146, R168). -/
def fpSqrt (F : Fmt) (mode : RoundingMode) (a : BitVec F.width) : BitVec F.width × FFlags :=
  match fpVal F a with
  | .nan sa => fpNanResult F sa
  | .inf sa => if sa then fpInvalid F else (fpInf F false, flagNone)
  | .fin sa ma ea =>
    if ma = 0 then (fpZero F sa, flagNone)
    else if sa then fpInvalid F
    else fpRound F mode false (magSqrt ma ea)

/-- Whether two factors are an infinity and a zero (R141 (d)). -/
def infTimesZero : Val → Val → Bool
  | .inf _, .fin _ m _ => m == 0
  | .fin _ m _, .inf _ => m == 0
  | _, _ => false

/-- A product of two values that are not NaN and not infinity times zero: an infinity, or the exact finite product. -/
def valMul : Val → Val → Val
  | .fin sa ma ea, .fin sb mb eb => .fin (sa ^^ sb) (ma * mb) (ea + eb)
  | .inf sa, .inf sb => .inf (sa ^^ sb)
  | .inf sa, .fin sb _ _ => .inf (sa ^^ sb)
  | .fin sa _ _, .inf sb => .inf (sa ^^ sb)
  | .nan sa, _ => .nan sa
  | _, .nan sb => .nan sb

/-- `fma_F` (R147, R145): `a × b + c` with one rounding. The sum step is `valAdd` on the unrounded product: it gives
the zero, infinity and rounding cases of R147. -/
def fpFma (F : Fmt) (mode : RoundingMode) (a b c : BitVec F.width) : BitVec F.width × FFlags :=
  let va := fpVal F a
  let vb := fpVal F b
  let vc := fpVal F c
  if va.isNan || vb.isNan || vc.isNan then
    fpNanResult F (va.isSignaling || vb.isSignaling || vc.isSignaling || infTimesZero va vb)
  else if infTimesZero va vb then fpInvalid F
  else valAdd F mode (valMul va vb) vc

/-! ### Order, minimum and maximum, compares (R148, R186, R200) -/

/-- `val(a) < val(b)` in the order of R148; false when either is a NaN. -/
def valLt : Val → Val → Bool
  | .nan _, _ => false
  | _, .nan _ => false
  | .inf sa, .inf sb => sa && !sb
  | .inf sa, .fin _ _ _ => sa
  | .fin _ _ _, .inf sb => !sb
  | .fin sa ma ea, .fin sb mb eb => decide (alignedSum (signedMant sa ma) ea (-(signedMant sb mb)) eb < 0)

/-- `val(a) = val(b)` in the order of R148: +0 = -0; false when either is a NaN. -/
def valEq : Val → Val → Bool
  | .nan _, _ => false
  | _, .nan _ => false
  | .inf sa, .inf sb => sa == sb
  | .inf _, .fin _ _ _ => false
  | .fin _ _ _, .inf _ => false
  | .fin sa ma ea, .fin sb mb eb => decide (alignedSum (signedMant sa ma) ea (-(signedMant sb mb)) eb = 0)

/-- `minmax_F(ismax, a, b)` (R186). -/
def fpMinMax (F : Fmt) (isMax : Bool) (a b : BitVec F.width) : BitVec F.width × FFlags :=
  let va := fpVal F a
  let vb := fpVal F b
  let fl := flagIf (va.isSignaling || vb.isSignaling) flagNV
  if va.isNan && vb.isNan then (fpNan F, fl)
  else if va.isNan then (b, fl)
  else if vb.isNan then (a, fl)
  else if valEq va vb && a.msb != b.msb then (if a.msb == isMax then b else a, fl)
  else if isMax then (if valLt vb va then a else b, fl)
  else (if valLt va vb then a else b, fl)

/-- `cmp_F(rel, a, b)` (R200): equality is quiet, the other two signal on any NaN. -/
def fpCompare (F : Fmt) (rel : Rel) (a b : BitVec F.width) : Bool × FFlags :=
  let va := fpVal F a
  let vb := fpVal F b
  if va.isNan || vb.isNan then
    match rel with
    | .eq => (false, flagIf (va.isSignaling || vb.isSignaling) flagNV)
    | .lt => (false, flagNV)
    | .le => (false, flagNV)
  else
    match rel with
    | .eq => (valEq va vb, flagNone)
    | .lt => (valLt va vb, flagNone)
    | .le => (valLt va vb || valEq va vb, flagNone)

/-- The mask of a class: one bit, by the table of R210. -/
def fpClassMask : FpClass → BitVec 10
  | .negInf => 0x001
  | .negNormal => 0x002
  | .negSubnormal => 0x004
  | .negZero => 0x008
  | .posZero => 0x010
  | .posSubnormal => 0x020
  | .posNormal => 0x040
  | .posInf => 0x080
  | .signalingNan => 0x100
  | .quietNan => 0x200

/-- `classify_F(a)` (R210). -/
def fpClassify (F : Fmt) (a : BitVec F.width) : BitVec 10 := fpClassMask (fpClassOf F a)

/-! ### Conversions (R139, R220, R222, R245, R246) -/

/-- The least value of an N-bit destination (R220). -/
def intLo (N : Nat) (signed : Bool) : Int := if signed then -(2 ^ (N - 1) : Nat) else 0

/-- The greatest value of an N-bit destination (R220). -/
def intHi (N : Nat) (signed : Bool) : Int := if signed then (2 ^ (N - 1) : Nat) - 1 else (2 ^ N : Nat) - 1

/-- `round_int(mode, r)` for `r = (-1)^neg × m` (R139). -/
def roundInt (mode : RoundingMode) (neg : Bool) (m : Mag) : Int := signedMant neg (rint mode neg m)

/-- `to_int(F, mode, a, N, signed)` (R220). -/
def fpToInt (F : Fmt) (mode : RoundingMode) (a : BitVec F.width) (N : Nat) (signed : Bool) : BitVec N × FFlags :=
  match fpVal F a with
  | .nan _ => (BitVec.ofInt N (intHi N signed), flagNV)
  | .inf neg => (BitVec.ofInt N (if neg then intLo N signed else intHi N signed), flagNV)
  | .fin neg mant exp =>
    let m := magOf mant exp
    let i := roundInt mode neg m
    if intHi N signed < i then (BitVec.ofInt N (intHi N signed), flagNV)
    else if i < intLo N signed then (BitVec.ofInt N (intLo N signed), flagNV)
    else (BitVec.ofInt N i, flagIf (!magIsInt m) flagNX)

/-- `from_int(F, mode, n)` (R222). -/
def fpFromInt (F : Fmt) (mode : RoundingMode) (n : Int) : BitVec F.width × FFlags :=
  if n = 0 then (fpZero F false, flagNone) else fpRoundInt F mode n 0

/-- The conversion from double to single (R245). -/
def fpNarrow (mode : RoundingMode) (a : BitVec 64) : BitVec 32 × FFlags :=
  match fpVal .double a with
  | .nan sa => fpNanResult .single sa
  | .inf neg => (fpInf .single neg, flagNone)
  | .fin neg mant exp =>
    if mant = 0 then (fpZero .single neg, flagNone) else fpRound .single mode neg (magOf mant exp)

/-- The conversion from single to double (R246): every finite value is representable. -/
def fpWiden (a : BitVec 32) : BitVec 64 × FFlags :=
  match fpVal .single a with
  | .nan sa => fpNanResult .double sa
  | .inf neg => (fpInf .double neg, flagNone)
  | .fin neg mant exp =>
    if mant = 0 then (fpZero .double neg, flagNone) else (fpEnc .double neg (magOf mant exp), flagNone)

/-! ### The record of functions (R7, D10) -/

/-- The default instance of `Numerics`: the IEEE 754-2008 functions above. -/
def ieee754 : Numerics where
  round := fpRound
  add := fpAdd
  sub := fpSub
  mul := fpMul
  div := fpDiv
  sqrt := fpSqrt
  fma := fpFma
  toInt := fpToInt
  fromInt := fpFromInt
  narrow := fpNarrow
  widen := fpWiden

/-- The record of functions that a configuration names (R7). -/
def numericsOf (c : Config) : Numerics :=
  match c.numerics with
  | .ieee754 => ieee754
  | .other n => Config.otherNumerics n

end Sys2Proof.Machine
end

