-- ==== Sys2Proof/Syntax.lean ====
section
/-! DEFINITION. The instructions: one constructor for each row of spec/opcode_table.json, in the table's order. -/

namespace Sys2Proof

/-- The number of an integer register `x[i]` (R10, R21). -/
abbrev XReg := BitVec 5

/-- The number of a floating-point register `f[i]` (R10, R27). -/
abbrev FReg := BitVec 5

/-- The 79 instructions in scope. Operands are the fields of the encoding: `rm` is the 3-bit rounding-mode field
(R105), `imm` of loads, stores and `jalr` the 12-bit byte offset (R99, R100), `imm` of `lui` the 20-bit field (R101),
`off` of `jal` bits 20 to 1 of the byte offset (R102), `csr` the CSR number (R103). `fence` and `fence.i` keep the
fields the hardware ignores (R113), so that a word and its instruction determine each other. -/
inductive Instr where
  -- Arithmetic (spec/41_fp_arith.md)
  /-- `fadd.s`, R170. -/
  | faddS (rd rs1 rs2 : FReg) (rm : BitVec 3)
  /-- `fadd.d`, R171. -/
  | faddD (rd rs1 rs2 : FReg) (rm : BitVec 3)
  /-- `fsub.s`, R172. -/
  | fsubS (rd rs1 rs2 : FReg) (rm : BitVec 3)
  /-- `fsub.d`, R173. -/
  | fsubD (rd rs1 rs2 : FReg) (rm : BitVec 3)
  /-- `fmul.s`, R174. -/
  | fmulS (rd rs1 rs2 : FReg) (rm : BitVec 3)
  /-- `fmul.d`, R175. -/
  | fmulD (rd rs1 rs2 : FReg) (rm : BitVec 3)
  /-- `fdiv.s`, R176. -/
  | fdivS (rd rs1 rs2 : FReg) (rm : BitVec 3)
  /-- `fdiv.d`, R177. -/
  | fdivD (rd rs1 rs2 : FReg) (rm : BitVec 3)
  /-- `fsqrt.s`, R178. -/
  | fsqrtS (rd rs1 : FReg) (rm : BitVec 3)
  /-- `fsqrt.d`, R179. -/
  | fsqrtD (rd rs1 : FReg) (rm : BitVec 3)
  /-- `fmin.s`, R180. -/
  | fminS (rd rs1 rs2 : FReg)
  /-- `fmin.d`, R181. -/
  | fminD (rd rs1 rs2 : FReg)
  /-- `fmax.s`, R182. -/
  | fmaxS (rd rs1 rs2 : FReg)
  /-- `fmax.d`, R183. -/
  | fmaxD (rd rs1 rs2 : FReg)
  /-- `fmadd.s`, R190. -/
  | fmaddS (rd rs1 rs2 rs3 : FReg) (rm : BitVec 3)
  /-- `fmadd.d`, R191. -/
  | fmaddD (rd rs1 rs2 rs3 : FReg) (rm : BitVec 3)
  /-- `fmsub.s`, R192. -/
  | fmsubS (rd rs1 rs2 rs3 : FReg) (rm : BitVec 3)
  /-- `fmsub.d`, R193. -/
  | fmsubD (rd rs1 rs2 rs3 : FReg) (rm : BitVec 3)
  /-- `fnmsub.s`, R194. -/
  | fnmsubS (rd rs1 rs2 rs3 : FReg) (rm : BitVec 3)
  /-- `fnmsub.d`, R195. -/
  | fnmsubD (rd rs1 rs2 rs3 : FReg) (rm : BitVec 3)
  /-- `fnmadd.s`, R196. -/
  | fnmaddS (rd rs1 rs2 rs3 : FReg) (rm : BitVec 3)
  /-- `fnmadd.d`, R197. -/
  | fnmaddD (rd rs1 rs2 rs3 : FReg) (rm : BitVec 3)
  -- Compare and classify (spec/42_fp_classify_compare.md)
  /-- `feq.s`, R201. -/
  | feqS (rd : XReg) (rs1 rs2 : FReg)
  /-- `feq.d`, R202. -/
  | feqD (rd : XReg) (rs1 rs2 : FReg)
  /-- `flt.s`, R203. -/
  | fltS (rd : XReg) (rs1 rs2 : FReg)
  /-- `flt.d`, R204. -/
  | fltD (rd : XReg) (rs1 rs2 : FReg)
  /-- `fle.s`, R205. -/
  | fleS (rd : XReg) (rs1 rs2 : FReg)
  /-- `fle.d`, R206. -/
  | fleD (rd : XReg) (rs1 rs2 : FReg)
  /-- `fclass.s`, R211. -/
  | fclassS (rd : XReg) (rs1 : FReg)
  /-- `fclass.d`, R212. -/
  | fclassD (rd : XReg) (rs1 : FReg)
  -- Conversions and moves (spec/43_fp_convert_move.md)
  /-- `fcvt.w.s`, R225. -/
  | fcvtWS (rd : XReg) (rs1 : FReg) (rm : BitVec 3)
  /-- `fcvt.wu.s`, R226. -/
  | fcvtWuS (rd : XReg) (rs1 : FReg) (rm : BitVec 3)
  /-- `fcvt.l.s`, R227. -/
  | fcvtLS (rd : XReg) (rs1 : FReg) (rm : BitVec 3)
  /-- `fcvt.lu.s`, R228. -/
  | fcvtLuS (rd : XReg) (rs1 : FReg) (rm : BitVec 3)
  /-- `fcvt.w.d`, R229. -/
  | fcvtWD (rd : XReg) (rs1 : FReg) (rm : BitVec 3)
  /-- `fcvt.wu.d`, R230. -/
  | fcvtWuD (rd : XReg) (rs1 : FReg) (rm : BitVec 3)
  /-- `fcvt.l.d`, R231. -/
  | fcvtLD (rd : XReg) (rs1 : FReg) (rm : BitVec 3)
  /-- `fcvt.lu.d`, R232. -/
  | fcvtLuD (rd : XReg) (rs1 : FReg) (rm : BitVec 3)
  /-- `fcvt.s.w`, R235. -/
  | fcvtSW (rd : FReg) (rs1 : XReg) (rm : BitVec 3)
  /-- `fcvt.s.wu`, R236. -/
  | fcvtSWu (rd : FReg) (rs1 : XReg) (rm : BitVec 3)
  /-- `fcvt.s.l`, R237. -/
  | fcvtSL (rd : FReg) (rs1 : XReg) (rm : BitVec 3)
  /-- `fcvt.s.lu`, R238. -/
  | fcvtSLu (rd : FReg) (rs1 : XReg) (rm : BitVec 3)
  /-- `fcvt.d.w`, R239. -/
  | fcvtDW (rd : FReg) (rs1 : XReg) (rm : BitVec 3)
  /-- `fcvt.d.wu`, R240. -/
  | fcvtDWu (rd : FReg) (rs1 : XReg) (rm : BitVec 3)
  /-- `fcvt.d.l`, R241. -/
  | fcvtDL (rd : FReg) (rs1 : XReg) (rm : BitVec 3)
  /-- `fcvt.d.lu`, R242. -/
  | fcvtDLu (rd : FReg) (rs1 : XReg) (rm : BitVec 3)
  /-- `fcvt.s.d`, R245. -/
  | fcvtSD (rd rs1 : FReg) (rm : BitVec 3)
  /-- `fcvt.d.s`, R246. -/
  | fcvtDS (rd rs1 : FReg) (rm : BitVec 3)
  /-- `fmv.x.w`, R250. -/
  | fmvXW (rd : XReg) (rs1 : FReg)
  /-- `fmv.w.x`, R251. -/
  | fmvWX (rd : FReg) (rs1 : XReg)
  /-- `fmv.x.d`, R252. -/
  | fmvXD (rd : XReg) (rs1 : FReg)
  /-- `fmv.d.x`, R253. -/
  | fmvDX (rd : FReg) (rs1 : XReg)
  -- Fences (spec/44_fence.md)
  /-- `fence`, R260. -/
  | fence (fm pred succ : BitVec 4) (rs1 rd : XReg)
  /-- `fence.i`, R261. -/
  | fenceI (imm : BitVec 12) (rs1 rd : XReg)
  -- Floating-point loads and stores (spec/45_fp_load_store.md)
  /-- `flw`, R271. -/
  | flw (rd : FReg) (rs1 : XReg) (imm : BitVec 12)
  /-- `fld`, R272. -/
  | fld (rd : FReg) (rs1 : XReg) (imm : BitVec 12)
  /-- `fsw`, R273. -/
  | fsw (rs2 : FReg) (rs1 : XReg) (imm : BitVec 12)
  /-- `fsd`, R274. -/
  | fsd (rs2 : FReg) (rs1 : XReg) (imm : BitVec 12)
  -- Sign injection (spec/46_fp_sign_inject.md)
  /-- `fsgnj.s`, R281. -/
  | fsgnjS (rd rs1 rs2 : FReg)
  /-- `fsgnj.d`, R282. -/
  | fsgnjD (rd rs1 rs2 : FReg)
  /-- `fsgnjn.s`, R283. -/
  | fsgnjnS (rd rs1 rs2 : FReg)
  /-- `fsgnjn.d`, R284. -/
  | fsgnjnD (rd rs1 rs2 : FReg)
  /-- `fsgnjx.s`, R285. -/
  | fsgnjxS (rd rs1 rs2 : FReg)
  /-- `fsgnjx.d`, R286. -/
  | fsgnjxD (rd rs1 rs2 : FReg)
  -- CSR access (spec/47_fp_csr_access.md)
  /-- `csrrw`, R300. -/
  | csrrw (rd rs1 : XReg) (csr : BitVec 12)
  /-- `csrrs`, R301. -/
  | csrrs (rd rs1 : XReg) (csr : BitVec 12)
  -- Jumps (spec/48_jumps.md)
  /-- `jal`, R320. -/
  | jal (rd : XReg) (off : BitVec 20)
  /-- `jalr`, R321. -/
  | jalr (rd rs1 : XReg) (imm : BitVec 12)
  -- Integer loads, lui, lr, mret (spec/49_loads_lui_lr_mret.md)
  /-- `lb`, R331. -/
  | lb (rd rs1 : XReg) (imm : BitVec 12)
  /-- `lbu`, R332. -/
  | lbu (rd rs1 : XReg) (imm : BitVec 12)
  /-- `lh`, R333. -/
  | lh (rd rs1 : XReg) (imm : BitVec 12)
  /-- `lhu`, R334. -/
  | lhu (rd rs1 : XReg) (imm : BitVec 12)
  /-- `lw`, R335. -/
  | lw (rd rs1 : XReg) (imm : BitVec 12)
  /-- `lwu`, R336. -/
  | lwu (rd rs1 : XReg) (imm : BitVec 12)
  /-- `ld`, R337. -/
  | ld (rd rs1 : XReg) (imm : BitVec 12)
  /-- `lui`, R340. -/
  | lui (rd : XReg) (imm : BitVec 20)
  /-- `lr.w`, R341. -/
  | lrW (rd rs1 : XReg) (aq rl : Bool)
  /-- `lr.d`, R342. -/
  | lrD (rd rs1 : XReg) (aq rl : Bool)
  /-- `mret`, R345. -/
  | mret
  deriving DecidableEq, Repr

end Sys2Proof
end

