-- ==== Sys2Proof/Machine/State.lean ====
section
/-! DEFINITION. The state of the machine as plain data (R20), the reasons a step can stop, and the state after reset. -/

namespace Sys2Proof.Machine

/-- The privilege modes (R36, R385): machine is encoded 3, user 0. -/
inductive Priv where
  | user
  | machine
  deriving DecidableEq, Repr

/-- The fields of `mstatus` that the spec keeps (R35); every other bit is hard-wired or derived (Machine/Operands.lean,
`mstatusRead`). -/
structure Mstatus where
  mie : Bool
  mpie : Bool
  mpp : Priv
  /-- `FS`: 0 Off, 1 Initial, 2 Clean, 3 Dirty (R37). -/
  fs : BitVec 2
  deriving DecidableEq, Repr

/-- The reservation that a load-reserved registers (R45): an address and a size of 4 or 8 bytes. -/
structure Reservation where
  addr : Word
  size : Nat
  deriving DecidableEq, Repr

/-- The eight control and status registers an instruction can name (R40, R103). -/
inductive Csr where
  | fflags
  | frm
  | fcsr
  | mstatus
  | mtvec
  | mepc
  | mcause
  | mtval
  deriving DecidableEq, Repr

/-- The exceptions that can be raised (R360, R363). -/
inductive Exc where
  | instructionAddressMisaligned
  | instructionAccessFault
  | illegalInstruction
  | loadAddressMisaligned
  | loadAccessFault
  | storeAddressMisaligned
  | storeAccessFault
  deriving DecidableEq, Repr

/-- The state of the hart (R20), its configuration (R7, R48), and the model's own counter of free values.
`x` and `f` hold one slot for each register; slot 0 of `x` is neither read nor written (R21). `mem` lists bytes by
address in one canonical form (Machine/Ops.lean, `memWf`). -/
structure State where
  cfg : Config
  /-- The integer registers (R21). -/
  x : Vector Word 32
  /-- The program counter (R24). -/
  pc : Word
  /-- The floating-point registers (R27). -/
  f : Vector Word 32
  /-- `fcsr[7:0]`: `frm` over `fflags` (R30, R33). -/
  fcsr : BitVec 8
  /-- `mstatus` (R35). -/
  mstatus : Mstatus
  /-- `mepc` (R38). -/
  mepc : Word
  /-- `mcause` (R39). -/
  mcause : Word
  /-- `mtval` (R39). -/
  mtval : Word
  /-- `mtvec` (R39). -/
  mtvec : Word
  /-- The current privilege mode (R36). -/
  priv : Priv
  /-- The reservation, or none (R45). -/
  reservation : Option Reservation
  /-- The memory `M` (R46): bytes that have a value. -/
  mem : List Host.Cell
  /-- The model's own: how many free values have been used (notes/assumptions/15.md). -/
  draws : Nat
  deriving DecidableEq, Repr

/-- Why the machine stops with a fault. -/
inductive Fault where
  /-- Raised by `step` when `pc` is the HALT address of the configuration (R420): the end of a run, not an error. Safe. -/
  | halted (pc : Word)
  /-- Raised by every exception under the terminal option (R377, D12): the end state `Fault(E, pc, tv)`. Safe. -/
  | terminal (e : Exc) (pc tv : Word)
  /-- Raised by a load or a fetch of a byte that nothing has written (R401, I22; notes/assumptions/7.md). Safe: a
  chip goes on with some value. -/
  | unwrittenByte (addr : Nat)
  deriving DecidableEq, Repr

/-- Why the model gives no meaning. -/
inductive Refusal where
  /-- Raised by an arm of `exec` whose instruction has no meaning yet. Safe. -/
  | notModelled (mnemonic : String)
  /-- Raised by `step` for a parcel that is not a 32-bit instruction (R90, R118). Safe. -/
  | notThirtyTwoBit (w : Insn)
  /-- Raised by `step` for a word whose opcode has no entry in the spec (R110 (b), R115). Safe. -/
  | noEntry (w : Insn)
  /-- Raised by `csrrw` and `csrrs` for a CSR number other than the eight (R40, R303, D24). Safe. -/
  | unmodelledCsr (num : BitVec 12)
  /-- Raised by a store to a byte of `CODE` (R68, R80, D20). Safe. -/
  | storeToCode (addr : Word)
  /-- Raised by a fetch of executable bytes that are not in `CODE`, which is all that fetch reads (R69, D20;
  notes/assumptions/23.md). Safe. -/
  | fetchOutsideCode (pc : Word)
  deriving DecidableEq, Repr

/-- The outcome of a step or of an instruction. -/
abbrev Out := Host.Outcome State Fault Refusal

/-- The machine right after reset in configuration `c` (R50, R400): M mode, `pc` at RESET_PC, `MIE` 0, no
reservation, `x[0]` 0, no byte of memory with a value. What R50 leaves unspecified is 0 (`MPP`: M) by DESIGN CHOICE,
unsafe: notes/assumptions/8.md to 11.md; `draws` is the model's own (15.md). -/
def State.resetWith (c : Config) : State where
  cfg := c
  x := Vector.replicate 32 0
  pc := c.resetPc
  f := Vector.replicate 32 0
  fcsr := 0
  mstatus := { mie := false, mpie := false, mpp := .machine, fs := 0 }
  mepc := 0
  mcause := 0
  mtval := 0
  mtvec := 0
  priv := .machine
  reservation := none
  mem := []
  draws := 0

/-- The machine right after reset, in the initial configuration (`Config.initial`). -/
def State.reset : State := State.resetWith Config.initial

end Sys2Proof.Machine
end

