-- ==== Sys2Proof/Decode.lean ====
section
/-! DEFINITION. Decoding words to instructions by the rows of the opcode table (R109, R110, R116), the encoder
written from the formats and codes of R92 to R107, and which rows a configuration has. -/

namespace Sys2Proof

/-! ### Fields of an instruction word (R91, R93, R96, R99 to R105) -/

/-- The major opcode (R91). -/
def opcodeOf (w : Insn) : BitVec 7 := w.extractLsb' 0 7
/-- The destination register number (R91). -/
def rdOf (w : Insn) : BitVec 5 := w.extractLsb' 7 5
/-- `funct3`, or the rounding-mode field `rm` (R91, R105). -/
def rmOf (w : Insn) : BitVec 3 := w.extractLsb' 12 3
/-- The first source register number (R91). -/
def rs1Of (w : Insn) : BitVec 5 := w.extractLsb' 15 5
/-- The second source register number (R91). -/
def rs2Of (w : Insn) : BitVec 5 := w.extractLsb' 20 5
/-- The third source register number of the R4 format (R93). -/
def rs3Of (w : Insn) : BitVec 5 := w.extractLsb' 27 5
/-- The 12-bit field of the I format (R94, R99), also the CSR number (R103). -/
def iImmOf (w : Insn) : BitVec 12 := w.extractLsb' 20 12
/-- The 12-bit immediate of the S format (R95, R100). -/
def sImmOf (w : Insn) : BitVec 12 := w.extractLsb' 25 7 ++ w.extractLsb' 7 5
/-- The 20-bit field of the U format (R97, R101). -/
def uImmOf (w : Insn) : BitVec 20 := w.extractLsb' 12 20
/-- Bits 20 to 1 of the offset of the J format (R98, R102). -/
def jImmOf (w : Insn) : BitVec 20 :=
  w.extractLsb' 31 1 ++ w.extractLsb' 12 8 ++ w.extractLsb' 20 1 ++ w.extractLsb' 21 10
/-- `fm` of a `fence` (R94, R113). -/
def fmOf (w : Insn) : BitVec 4 := w.extractLsb' 28 4
/-- `pred` of a `fence` (R94). -/
def predOf (w : Insn) : BitVec 4 := w.extractLsb' 24 4
/-- `succ` of a `fence` (R94). -/
def succOf (w : Insn) : BitVec 4 := w.extractLsb' 20 4
/-- `aq` of an atomic (R96). -/
def aqOf (w : Insn) : Bool := w.getLsbD 26
/-- `rl` of an atomic (R96). -/
def rlOf (w : Insn) : Bool := w.getLsbD 25

/-! ### The rows of the opcode table -/

/-- One row: a word `w` is this row's when `w &&& mask = bits`, and `read` takes its operands (R109). -/
structure Row where
  mask : Insn
  bits : Insn
  read : Insn → Instr

/-- The rows of spec/41_fp_arith.md. -/
def arithRows : List Row := [
  ⟨0xfe00007f, 0x00000053, fun w => .faddS (rdOf w) (rs1Of w) (rs2Of w) (rmOf w)⟩,
  ⟨0xfe00007f, 0x02000053, fun w => .faddD (rdOf w) (rs1Of w) (rs2Of w) (rmOf w)⟩,
  ⟨0xfe00007f, 0x08000053, fun w => .fsubS (rdOf w) (rs1Of w) (rs2Of w) (rmOf w)⟩,
  ⟨0xfe00007f, 0x0a000053, fun w => .fsubD (rdOf w) (rs1Of w) (rs2Of w) (rmOf w)⟩,
  ⟨0xfe00007f, 0x10000053, fun w => .fmulS (rdOf w) (rs1Of w) (rs2Of w) (rmOf w)⟩,
  ⟨0xfe00007f, 0x12000053, fun w => .fmulD (rdOf w) (rs1Of w) (rs2Of w) (rmOf w)⟩,
  ⟨0xfe00007f, 0x18000053, fun w => .fdivS (rdOf w) (rs1Of w) (rs2Of w) (rmOf w)⟩,
  ⟨0xfe00007f, 0x1a000053, fun w => .fdivD (rdOf w) (rs1Of w) (rs2Of w) (rmOf w)⟩,
  ⟨0xfff0007f, 0x58000053, fun w => .fsqrtS (rdOf w) (rs1Of w) (rmOf w)⟩,
  ⟨0xfff0007f, 0x5a000053, fun w => .fsqrtD (rdOf w) (rs1Of w) (rmOf w)⟩,
  ⟨0xfe00707f, 0x28000053, fun w => .fminS (rdOf w) (rs1Of w) (rs2Of w)⟩,
  ⟨0xfe00707f, 0x2a000053, fun w => .fminD (rdOf w) (rs1Of w) (rs2Of w)⟩,
  ⟨0xfe00707f, 0x28001053, fun w => .fmaxS (rdOf w) (rs1Of w) (rs2Of w)⟩,
  ⟨0xfe00707f, 0x2a001053, fun w => .fmaxD (rdOf w) (rs1Of w) (rs2Of w)⟩,
  ⟨0x0600007f, 0x00000043, fun w => .fmaddS (rdOf w) (rs1Of w) (rs2Of w) (rs3Of w) (rmOf w)⟩,
  ⟨0x0600007f, 0x02000043, fun w => .fmaddD (rdOf w) (rs1Of w) (rs2Of w) (rs3Of w) (rmOf w)⟩,
  ⟨0x0600007f, 0x00000047, fun w => .fmsubS (rdOf w) (rs1Of w) (rs2Of w) (rs3Of w) (rmOf w)⟩,
  ⟨0x0600007f, 0x02000047, fun w => .fmsubD (rdOf w) (rs1Of w) (rs2Of w) (rs3Of w) (rmOf w)⟩,
  ⟨0x0600007f, 0x0000004b, fun w => .fnmsubS (rdOf w) (rs1Of w) (rs2Of w) (rs3Of w) (rmOf w)⟩,
  ⟨0x0600007f, 0x0200004b, fun w => .fnmsubD (rdOf w) (rs1Of w) (rs2Of w) (rs3Of w) (rmOf w)⟩,
  ⟨0x0600007f, 0x0000004f, fun w => .fnmaddS (rdOf w) (rs1Of w) (rs2Of w) (rs3Of w) (rmOf w)⟩,
  ⟨0x0600007f, 0x0200004f, fun w => .fnmaddD (rdOf w) (rs1Of w) (rs2Of w) (rs3Of w) (rmOf w)⟩]

/-- The rows of spec/42_fp_classify_compare.md. -/
def compareRows : List Row := [
  ⟨0xfe00707f, 0xa0002053, fun w => .feqS (rdOf w) (rs1Of w) (rs2Of w)⟩,
  ⟨0xfe00707f, 0xa2002053, fun w => .feqD (rdOf w) (rs1Of w) (rs2Of w)⟩,
  ⟨0xfe00707f, 0xa0001053, fun w => .fltS (rdOf w) (rs1Of w) (rs2Of w)⟩,
  ⟨0xfe00707f, 0xa2001053, fun w => .fltD (rdOf w) (rs1Of w) (rs2Of w)⟩,
  ⟨0xfe00707f, 0xa0000053, fun w => .fleS (rdOf w) (rs1Of w) (rs2Of w)⟩,
  ⟨0xfe00707f, 0xa2000053, fun w => .fleD (rdOf w) (rs1Of w) (rs2Of w)⟩,
  ⟨0xfff0707f, 0xe0001053, fun w => .fclassS (rdOf w) (rs1Of w)⟩,
  ⟨0xfff0707f, 0xe2001053, fun w => .fclassD (rdOf w) (rs1Of w)⟩]

/-- The rows of spec/43_fp_convert_move.md. -/
def convertRows : List Row := [
  ⟨0xfff0007f, 0xc0000053, fun w => .fcvtWS (rdOf w) (rs1Of w) (rmOf w)⟩,
  ⟨0xfff0007f, 0xc0100053, fun w => .fcvtWuS (rdOf w) (rs1Of w) (rmOf w)⟩,
  ⟨0xfff0007f, 0xc0200053, fun w => .fcvtLS (rdOf w) (rs1Of w) (rmOf w)⟩,
  ⟨0xfff0007f, 0xc0300053, fun w => .fcvtLuS (rdOf w) (rs1Of w) (rmOf w)⟩,
  ⟨0xfff0007f, 0xc2000053, fun w => .fcvtWD (rdOf w) (rs1Of w) (rmOf w)⟩,
  ⟨0xfff0007f, 0xc2100053, fun w => .fcvtWuD (rdOf w) (rs1Of w) (rmOf w)⟩,
  ⟨0xfff0007f, 0xc2200053, fun w => .fcvtLD (rdOf w) (rs1Of w) (rmOf w)⟩,
  ⟨0xfff0007f, 0xc2300053, fun w => .fcvtLuD (rdOf w) (rs1Of w) (rmOf w)⟩,
  ⟨0xfff0007f, 0xd0000053, fun w => .fcvtSW (rdOf w) (rs1Of w) (rmOf w)⟩,
  ⟨0xfff0007f, 0xd0100053, fun w => .fcvtSWu (rdOf w) (rs1Of w) (rmOf w)⟩,
  ⟨0xfff0007f, 0xd0200053, fun w => .fcvtSL (rdOf w) (rs1Of w) (rmOf w)⟩,
  ⟨0xfff0007f, 0xd0300053, fun w => .fcvtSLu (rdOf w) (rs1Of w) (rmOf w)⟩,
  ⟨0xfff0007f, 0xd2000053, fun w => .fcvtDW (rdOf w) (rs1Of w) (rmOf w)⟩,
  ⟨0xfff0007f, 0xd2100053, fun w => .fcvtDWu (rdOf w) (rs1Of w) (rmOf w)⟩,
  ⟨0xfff0007f, 0xd2200053, fun w => .fcvtDL (rdOf w) (rs1Of w) (rmOf w)⟩,
  ⟨0xfff0007f, 0xd2300053, fun w => .fcvtDLu (rdOf w) (rs1Of w) (rmOf w)⟩,
  ⟨0xfff0007f, 0x40100053, fun w => .fcvtSD (rdOf w) (rs1Of w) (rmOf w)⟩,
  ⟨0xfff0007f, 0x42000053, fun w => .fcvtDS (rdOf w) (rs1Of w) (rmOf w)⟩,
  ⟨0xfff0707f, 0xe0000053, fun w => .fmvXW (rdOf w) (rs1Of w)⟩,
  ⟨0xfff0707f, 0xf0000053, fun w => .fmvWX (rdOf w) (rs1Of w)⟩,
  ⟨0xfff0707f, 0xe2000053, fun w => .fmvXD (rdOf w) (rs1Of w)⟩,
  ⟨0xfff0707f, 0xf2000053, fun w => .fmvDX (rdOf w) (rs1Of w)⟩]

/-- The rows of spec/44_fence.md. -/
def fenceRows : List Row := [
  ⟨0x0000707f, 0x0000000f, fun w => .fence (fmOf w) (predOf w) (succOf w) (rs1Of w) (rdOf w)⟩,
  ⟨0x0000707f, 0x0000100f, fun w => .fenceI (iImmOf w) (rs1Of w) (rdOf w)⟩]

/-- The rows of spec/45_fp_load_store.md. -/
def fpMemRows : List Row := [
  ⟨0x0000707f, 0x00002007, fun w => .flw (rdOf w) (rs1Of w) (iImmOf w)⟩,
  ⟨0x0000707f, 0x00003007, fun w => .fld (rdOf w) (rs1Of w) (iImmOf w)⟩,
  ⟨0x0000707f, 0x00002027, fun w => .fsw (rs2Of w) (rs1Of w) (sImmOf w)⟩,
  ⟨0x0000707f, 0x00003027, fun w => .fsd (rs2Of w) (rs1Of w) (sImmOf w)⟩]

/-- The rows of spec/46_fp_sign_inject.md. -/
def signRows : List Row := [
  ⟨0xfe00707f, 0x20000053, fun w => .fsgnjS (rdOf w) (rs1Of w) (rs2Of w)⟩,
  ⟨0xfe00707f, 0x22000053, fun w => .fsgnjD (rdOf w) (rs1Of w) (rs2Of w)⟩,
  ⟨0xfe00707f, 0x20001053, fun w => .fsgnjnS (rdOf w) (rs1Of w) (rs2Of w)⟩,
  ⟨0xfe00707f, 0x22001053, fun w => .fsgnjnD (rdOf w) (rs1Of w) (rs2Of w)⟩,
  ⟨0xfe00707f, 0x20002053, fun w => .fsgnjxS (rdOf w) (rs1Of w) (rs2Of w)⟩,
  ⟨0xfe00707f, 0x22002053, fun w => .fsgnjxD (rdOf w) (rs1Of w) (rs2Of w)⟩]

/-- The rows of spec/47_fp_csr_access.md. -/
def csrRows : List Row := [
  ⟨0x0000707f, 0x00001073, fun w => .csrrw (rdOf w) (rs1Of w) (iImmOf w)⟩,
  ⟨0x0000707f, 0x00002073, fun w => .csrrs (rdOf w) (rs1Of w) (iImmOf w)⟩]

/-- The rows of spec/48_jumps.md. -/
def jumpRows : List Row := [
  ⟨0x0000007f, 0x0000006f, fun w => .jal (rdOf w) (jImmOf w)⟩,
  ⟨0x0000707f, 0x00000067, fun w => .jalr (rdOf w) (rs1Of w) (iImmOf w)⟩]

/-- The rows of spec/49_loads_lui_lr_mret.md. -/
def loadSystemRows : List Row := [
  ⟨0x0000707f, 0x00000003, fun w => .lb (rdOf w) (rs1Of w) (iImmOf w)⟩,
  ⟨0x0000707f, 0x00004003, fun w => .lbu (rdOf w) (rs1Of w) (iImmOf w)⟩,
  ⟨0x0000707f, 0x00001003, fun w => .lh (rdOf w) (rs1Of w) (iImmOf w)⟩,
  ⟨0x0000707f, 0x00005003, fun w => .lhu (rdOf w) (rs1Of w) (iImmOf w)⟩,
  ⟨0x0000707f, 0x00002003, fun w => .lw (rdOf w) (rs1Of w) (iImmOf w)⟩,
  ⟨0x0000707f, 0x00006003, fun w => .lwu (rdOf w) (rs1Of w) (iImmOf w)⟩,
  ⟨0x0000707f, 0x00003003, fun w => .ld (rdOf w) (rs1Of w) (iImmOf w)⟩,
  ⟨0x0000007f, 0x00000037, fun w => .lui (rdOf w) (uImmOf w)⟩,
  ⟨0xf9f0707f, 0x1000202f, fun w => .lrW (rdOf w) (rs1Of w) (aqOf w) (rlOf w)⟩,
  ⟨0xf9f0707f, 0x1000302f, fun w => .lrD (rdOf w) (rs1Of w) (aqOf w) (rlOf w)⟩,
  ⟨0xffffffff, 0x30200073, fun _ => .mret⟩]

/-- Every row of spec/opcode_table.json, in its order. -/
def rows : List Row :=
  arithRows ++ compareRows ++ convertRows ++ fenceRows ++ fpMemRows ++ signRows ++ csrRows ++ jumpRows ++ loadSystemRows

/-! ### Decoding -/

/-- What a word decodes to: an instruction; an illegal instruction (R110 (a), R116); or a word the model gives no
meaning: not a 32-bit instruction (R90), no entry in the spec (R110 (b), R115), or too few bytes. -/
inductive Decoded where
  | instr (i : Instr)
  | illegal
  | notThirtyTwoBit
  | noEntry
  | truncated
  deriving DecidableEq, Repr

/-- The seven floating-point major opcodes of R110 (a): LOAD-FP, STORE-FP, MADD, MSUB, NMSUB, NMADD, OP-FP. -/
def fpMajorOpcodes : List (BitVec 7) :=
  [0b0000111, 0b0100111, 0b1000011, 0b1000111, 0b1001011, 0b1001111, 0b1010011]

/-- A word that matches no row (R110, R116, R90): the all-zero and all-ones words are illegal, before the length
rule; a parcel that is not a 32-bit instruction is refused; a floating-point opcode is illegal; any other is
refused. -/
def decodeUnmatched (w : Insn) : Decoded :=
  if w = 0 ∨ w = BitVec.allOnes 32 then .illegal
  else if w.extractLsb' 0 2 ≠ 0b11#2 ∨ w.extractLsb' 2 3 = 0b111#3 then .notThirtyTwoBit
  else if opcodeOf w ∈ fpMajorOpcodes then .illegal
  else .noEntry

/-- R109: the row with `w &&& mask = bits`, whatever the configuration; R110 for a word with none. The rows that a
configuration lacks are `Instr.presentIn`. -/
def decodeWord (w : Insn) : Decoded :=
  match rows.find? (fun r => w &&& r.mask == r.bits) with
  | some r => .instr (r.read w)
  | none => decodeUnmatched w

/-- An instruction word from its bytes, lowest address first: little-endian (R61, R69, R90). -/
def decodeBytes : List Byte → Decoded
  | b0 :: b1 :: b2 :: b3 :: _ => decodeWord (b3 ++ b2 ++ b1 ++ b0)
  | _ => .truncated

/-- The bytes of an instruction word, lowest address first (R61, R90). -/
def insnBytes (w : Insn) : List Byte :=
  [w.extractLsb' 0 8, w.extractLsb' 8 8, w.extractLsb' 16 8, w.extractLsb' 24 8]

/-- The host's question: what the decoder reads from the instruction whose low `nbits` bits are those of `w` and
whose other bits are zero. -/
def decodeTableWord (nbits w : Nat) : Option Instr :=
  match decodeBytes (insnBytes (BitVec.ofNat 32 (w % 2 ^ nbits))) with
  | .instr i => some i
  | _ => none

/-! ### Encoding, from the formats (R92 to R98) and codes (R104 to R108) -/

/-- R-type (R92). -/
def encR (funct7 : BitVec 7) (rs2 rs1 : BitVec 5) (funct3 : BitVec 3) (rd : BitVec 5) (op : BitVec 7) : Insn :=
  funct7 ++ rs2 ++ rs1 ++ funct3 ++ rd ++ op
/-- R4-type (R93). -/
def encR4 (rs3 : BitVec 5) (fmt : BitVec 2) (rs2 rs1 : BitVec 5) (rm : BitVec 3) (rd : BitVec 5) (op : BitVec 7) :
    Insn :=
  rs3 ++ fmt ++ rs2 ++ rs1 ++ rm ++ rd ++ op
/-- I-type (R94). -/
def encI (imm : BitVec 12) (rs1 : BitVec 5) (funct3 : BitVec 3) (rd : BitVec 5) (op : BitVec 7) : Insn :=
  imm ++ rs1 ++ funct3 ++ rd ++ op
/-- I-type of `fence` (R94): the immediate is `fm`, `pred`, `succ`. -/
def encFence (fm pred succ : BitVec 4) (rs1 : BitVec 5) (funct3 : BitVec 3) (rd : BitVec 5) (op : BitVec 7) : Insn :=
  fm ++ pred ++ succ ++ rs1 ++ funct3 ++ rd ++ op
/-- S-type (R95). -/
def encS (imm : BitVec 12) (rs2 rs1 : BitVec 5) (funct3 : BitVec 3) (op : BitVec 7) : Insn :=
  imm.extractLsb' 5 7 ++ rs2 ++ rs1 ++ funct3 ++ imm.extractLsb' 0 5 ++ op
/-- R-type, atomic variant (R96), of `lr`. -/
def encA (funct5 : BitVec 5) (aq rl : Bool) (rs2 rs1 : BitVec 5) (funct3 : BitVec 3) (rd : BitVec 5) (op : BitVec 7) :
    Insn :=
  funct5 ++ BitVec.ofBool aq ++ BitVec.ofBool rl ++ rs2 ++ rs1 ++ funct3 ++ rd ++ op
/-- U-type (R97). -/
def encU (imm : BitVec 20) (rd : BitVec 5) (op : BitVec 7) : Insn := imm ++ rd ++ op
/-- J-type (R98); `off` holds bits 20 to 1 of the offset. -/
def encJ (off : BitVec 20) (rd : BitVec 5) (op : BitVec 7) : Insn :=
  off.extractLsb' 19 1 ++ off.extractLsb' 0 10 ++ off.extractLsb' 10 1 ++ off.extractLsb' 11 8 ++ rd ++ op

/-- The word of an instruction (R106, R107, R108, and the Encoding line of each instruction's rule). -/
def encode : Instr → Insn
  | .faddS rd rs1 rs2 rm => encR 0b0000000 rs2 rs1 rm rd 0b1010011
  | .faddD rd rs1 rs2 rm => encR 0b0000001 rs2 rs1 rm rd 0b1010011
  | .fsubS rd rs1 rs2 rm => encR 0b0000100 rs2 rs1 rm rd 0b1010011
  | .fsubD rd rs1 rs2 rm => encR 0b0000101 rs2 rs1 rm rd 0b1010011
  | .fmulS rd rs1 rs2 rm => encR 0b0001000 rs2 rs1 rm rd 0b1010011
  | .fmulD rd rs1 rs2 rm => encR 0b0001001 rs2 rs1 rm rd 0b1010011
  | .fdivS rd rs1 rs2 rm => encR 0b0001100 rs2 rs1 rm rd 0b1010011
  | .fdivD rd rs1 rs2 rm => encR 0b0001101 rs2 rs1 rm rd 0b1010011
  | .fsqrtS rd rs1 rm => encR 0b0101100 0b00000 rs1 rm rd 0b1010011
  | .fsqrtD rd rs1 rm => encR 0b0101101 0b00000 rs1 rm rd 0b1010011
  | .fminS rd rs1 rs2 => encR 0b0010100 rs2 rs1 0b000 rd 0b1010011
  | .fminD rd rs1 rs2 => encR 0b0010101 rs2 rs1 0b000 rd 0b1010011
  | .fmaxS rd rs1 rs2 => encR 0b0010100 rs2 rs1 0b001 rd 0b1010011
  | .fmaxD rd rs1 rs2 => encR 0b0010101 rs2 rs1 0b001 rd 0b1010011
  | .fmaddS rd rs1 rs2 rs3 rm => encR4 rs3 0b00 rs2 rs1 rm rd 0b1000011
  | .fmaddD rd rs1 rs2 rs3 rm => encR4 rs3 0b01 rs2 rs1 rm rd 0b1000011
  | .fmsubS rd rs1 rs2 rs3 rm => encR4 rs3 0b00 rs2 rs1 rm rd 0b1000111
  | .fmsubD rd rs1 rs2 rs3 rm => encR4 rs3 0b01 rs2 rs1 rm rd 0b1000111
  | .fnmsubS rd rs1 rs2 rs3 rm => encR4 rs3 0b00 rs2 rs1 rm rd 0b1001011
  | .fnmsubD rd rs1 rs2 rs3 rm => encR4 rs3 0b01 rs2 rs1 rm rd 0b1001011
  | .fnmaddS rd rs1 rs2 rs3 rm => encR4 rs3 0b00 rs2 rs1 rm rd 0b1001111
  | .fnmaddD rd rs1 rs2 rs3 rm => encR4 rs3 0b01 rs2 rs1 rm rd 0b1001111
  | .feqS rd rs1 rs2 => encR 0b1010000 rs2 rs1 0b010 rd 0b1010011
  | .feqD rd rs1 rs2 => encR 0b1010001 rs2 rs1 0b010 rd 0b1010011
  | .fltS rd rs1 rs2 => encR 0b1010000 rs2 rs1 0b001 rd 0b1010011
  | .fltD rd rs1 rs2 => encR 0b1010001 rs2 rs1 0b001 rd 0b1010011
  | .fleS rd rs1 rs2 => encR 0b1010000 rs2 rs1 0b000 rd 0b1010011
  | .fleD rd rs1 rs2 => encR 0b1010001 rs2 rs1 0b000 rd 0b1010011
  | .fclassS rd rs1 => encR 0b1110000 0b00000 rs1 0b001 rd 0b1010011
  | .fclassD rd rs1 => encR 0b1110001 0b00000 rs1 0b001 rd 0b1010011
  | .fcvtWS rd rs1 rm => encR 0b1100000 0b00000 rs1 rm rd 0b1010011
  | .fcvtWuS rd rs1 rm => encR 0b1100000 0b00001 rs1 rm rd 0b1010011
  | .fcvtLS rd rs1 rm => encR 0b1100000 0b00010 rs1 rm rd 0b1010011
  | .fcvtLuS rd rs1 rm => encR 0b1100000 0b00011 rs1 rm rd 0b1010011
  | .fcvtWD rd rs1 rm => encR 0b1100001 0b00000 rs1 rm rd 0b1010011
  | .fcvtWuD rd rs1 rm => encR 0b1100001 0b00001 rs1 rm rd 0b1010011
  | .fcvtLD rd rs1 rm => encR 0b1100001 0b00010 rs1 rm rd 0b1010011
  | .fcvtLuD rd rs1 rm => encR 0b1100001 0b00011 rs1 rm rd 0b1010011
  | .fcvtSW rd rs1 rm => encR 0b1101000 0b00000 rs1 rm rd 0b1010011
  | .fcvtSWu rd rs1 rm => encR 0b1101000 0b00001 rs1 rm rd 0b1010011
  | .fcvtSL rd rs1 rm => encR 0b1101000 0b00010 rs1 rm rd 0b1010011
  | .fcvtSLu rd rs1 rm => encR 0b1101000 0b00011 rs1 rm rd 0b1010011
  | .fcvtDW rd rs1 rm => encR 0b1101001 0b00000 rs1 rm rd 0b1010011
  | .fcvtDWu rd rs1 rm => encR 0b1101001 0b00001 rs1 rm rd 0b1010011
  | .fcvtDL rd rs1 rm => encR 0b1101001 0b00010 rs1 rm rd 0b1010011
  | .fcvtDLu rd rs1 rm => encR 0b1101001 0b00011 rs1 rm rd 0b1010011
  | .fcvtSD rd rs1 rm => encR 0b0100000 0b00001 rs1 rm rd 0b1010011
  | .fcvtDS rd rs1 rm => encR 0b0100001 0b00000 rs1 rm rd 0b1010011
  | .fmvXW rd rs1 => encR 0b1110000 0b00000 rs1 0b000 rd 0b1010011
  | .fmvWX rd rs1 => encR 0b1111000 0b00000 rs1 0b000 rd 0b1010011
  | .fmvXD rd rs1 => encR 0b1110001 0b00000 rs1 0b000 rd 0b1010011
  | .fmvDX rd rs1 => encR 0b1111001 0b00000 rs1 0b000 rd 0b1010011
  | .fence fm pred succ rs1 rd => encFence fm pred succ rs1 0b000 rd 0b0001111
  | .fenceI imm rs1 rd => encI imm rs1 0b001 rd 0b0001111
  | .flw rd rs1 imm => encI imm rs1 0b010 rd 0b0000111
  | .fld rd rs1 imm => encI imm rs1 0b011 rd 0b0000111
  | .fsw rs2 rs1 imm => encS imm rs2 rs1 0b010 0b0100111
  | .fsd rs2 rs1 imm => encS imm rs2 rs1 0b011 0b0100111
  | .fsgnjS rd rs1 rs2 => encR 0b0010000 rs2 rs1 0b000 rd 0b1010011
  | .fsgnjD rd rs1 rs2 => encR 0b0010001 rs2 rs1 0b000 rd 0b1010011
  | .fsgnjnS rd rs1 rs2 => encR 0b0010000 rs2 rs1 0b001 rd 0b1010011
  | .fsgnjnD rd rs1 rs2 => encR 0b0010001 rs2 rs1 0b001 rd 0b1010011
  | .fsgnjxS rd rs1 rs2 => encR 0b0010000 rs2 rs1 0b010 rd 0b1010011
  | .fsgnjxD rd rs1 rs2 => encR 0b0010001 rs2 rs1 0b010 rd 0b1010011
  | .csrrw rd rs1 csr => encI csr rs1 0b001 rd 0b1110011
  | .csrrs rd rs1 csr => encI csr rs1 0b010 rd 0b1110011
  | .jal rd off => encJ off rd 0b1101111
  | .jalr rd rs1 imm => encI imm rs1 0b000 rd 0b1100111
  | .lb rd rs1 imm => encI imm rs1 0b000 rd 0b0000011
  | .lbu rd rs1 imm => encI imm rs1 0b100 rd 0b0000011
  | .lh rd rs1 imm => encI imm rs1 0b001 rd 0b0000011
  | .lhu rd rs1 imm => encI imm rs1 0b101 rd 0b0000011
  | .lw rd rs1 imm => encI imm rs1 0b010 rd 0b0000011
  | .lwu rd rs1 imm => encI imm rs1 0b110 rd 0b0000011
  | .ld rd rs1 imm => encI imm rs1 0b011 rd 0b0000011
  | .lui rd imm => encU imm rd 0b0110111
  | .lrW rd rs1 aq rl => encA 0b00010 aq rl 0b00000 rs1 0b010 rd 0b0101111
  | .lrD rd rs1 aq rl => encA 0b00010 aq rl 0b00000 rs1 0b011 rd 0b0101111
  | .mret => encR 0b0011000 0b00010 0b00000 0b000 0b00000 0b1110011

/-! ### The rows a configuration has (R109, R110, R223) -/

/-- The rows marked `"xlen": 64` in the table: they exist only when XLEN = 64 (R109, R223, R336, R337, R342). -/
def Instr.rv64Only : Instr → Bool
  | .faddS _ _ _ _ => false
  | .faddD _ _ _ _ => false
  | .fsubS _ _ _ _ => false
  | .fsubD _ _ _ _ => false
  | .fmulS _ _ _ _ => false
  | .fmulD _ _ _ _ => false
  | .fdivS _ _ _ _ => false
  | .fdivD _ _ _ _ => false
  | .fsqrtS _ _ _ => false
  | .fsqrtD _ _ _ => false
  | .fminS _ _ _ => false
  | .fminD _ _ _ => false
  | .fmaxS _ _ _ => false
  | .fmaxD _ _ _ => false
  | .fmaddS _ _ _ _ _ => false
  | .fmaddD _ _ _ _ _ => false
  | .fmsubS _ _ _ _ _ => false
  | .fmsubD _ _ _ _ _ => false
  | .fnmsubS _ _ _ _ _ => false
  | .fnmsubD _ _ _ _ _ => false
  | .fnmaddS _ _ _ _ _ => false
  | .fnmaddD _ _ _ _ _ => false
  | .feqS _ _ _ => false
  | .feqD _ _ _ => false
  | .fltS _ _ _ => false
  | .fltD _ _ _ => false
  | .fleS _ _ _ => false
  | .fleD _ _ _ => false
  | .fclassS _ _ => false
  | .fclassD _ _ => false
  | .fcvtWS _ _ _ => false
  | .fcvtWuS _ _ _ => false
  | .fcvtLS _ _ _ => true
  | .fcvtLuS _ _ _ => true
  | .fcvtWD _ _ _ => false
  | .fcvtWuD _ _ _ => false
  | .fcvtLD _ _ _ => true
  | .fcvtLuD _ _ _ => true
  | .fcvtSW _ _ _ => false
  | .fcvtSWu _ _ _ => false
  | .fcvtSL _ _ _ => true
  | .fcvtSLu _ _ _ => true
  | .fcvtDW _ _ _ => false
  | .fcvtDWu _ _ _ => false
  | .fcvtDL _ _ _ => true
  | .fcvtDLu _ _ _ => true
  | .fcvtSD _ _ _ => false
  | .fcvtDS _ _ _ => false
  | .fmvXW _ _ => false
  | .fmvWX _ _ => false
  | .fmvXD _ _ => true
  | .fmvDX _ _ => true
  | .fence _ _ _ _ _ => false
  | .fenceI _ _ _ => false
  | .flw _ _ _ => false
  | .fld _ _ _ => false
  | .fsw _ _ _ => false
  | .fsd _ _ _ => false
  | .fsgnjS _ _ _ => false
  | .fsgnjD _ _ _ => false
  | .fsgnjnS _ _ _ => false
  | .fsgnjnD _ _ _ => false
  | .fsgnjxS _ _ _ => false
  | .fsgnjxD _ _ _ => false
  | .csrrw _ _ _ => false
  | .csrrs _ _ _ => false
  | .jal _ _ => false
  | .jalr _ _ _ => false
  | .lb _ _ _ => false
  | .lbu _ _ _ => false
  | .lh _ _ _ => false
  | .lhu _ _ _ => false
  | .lw _ _ _ => false
  | .lwu _ _ _ => true
  | .ld _ _ _ => true
  | .lui _ _ => false
  | .lrW _ _ _ _ => false
  | .lrD _ _ _ _ => true
  | .mret => false

/-- The rows of extension D: they exist only when `HAS_D` (R109, R169). -/
def Instr.inD : Instr → Bool
  | .faddS _ _ _ _ => false
  | .faddD _ _ _ _ => true
  | .fsubS _ _ _ _ => false
  | .fsubD _ _ _ _ => true
  | .fmulS _ _ _ _ => false
  | .fmulD _ _ _ _ => true
  | .fdivS _ _ _ _ => false
  | .fdivD _ _ _ _ => true
  | .fsqrtS _ _ _ => false
  | .fsqrtD _ _ _ => true
  | .fminS _ _ _ => false
  | .fminD _ _ _ => true
  | .fmaxS _ _ _ => false
  | .fmaxD _ _ _ => true
  | .fmaddS _ _ _ _ _ => false
  | .fmaddD _ _ _ _ _ => true
  | .fmsubS _ _ _ _ _ => false
  | .fmsubD _ _ _ _ _ => true
  | .fnmsubS _ _ _ _ _ => false
  | .fnmsubD _ _ _ _ _ => true
  | .fnmaddS _ _ _ _ _ => false
  | .fnmaddD _ _ _ _ _ => true
  | .feqS _ _ _ => false
  | .feqD _ _ _ => true
  | .fltS _ _ _ => false
  | .fltD _ _ _ => true
  | .fleS _ _ _ => false
  | .fleD _ _ _ => true
  | .fclassS _ _ => false
  | .fclassD _ _ => true
  | .fcvtWS _ _ _ => false
  | .fcvtWuS _ _ _ => false
  | .fcvtLS _ _ _ => false
  | .fcvtLuS _ _ _ => false
  | .fcvtWD _ _ _ => true
  | .fcvtWuD _ _ _ => true
  | .fcvtLD _ _ _ => true
  | .fcvtLuD _ _ _ => true
  | .fcvtSW _ _ _ => false
  | .fcvtSWu _ _ _ => false
  | .fcvtSL _ _ _ => false
  | .fcvtSLu _ _ _ => false
  | .fcvtDW _ _ _ => true
  | .fcvtDWu _ _ _ => true
  | .fcvtDL _ _ _ => true
  | .fcvtDLu _ _ _ => true
  | .fcvtSD _ _ _ => true
  | .fcvtDS _ _ _ => true
  | .fmvXW _ _ => false
  | .fmvWX _ _ => false
  | .fmvXD _ _ => true
  | .fmvDX _ _ => true
  | .fence _ _ _ _ _ => false
  | .fenceI _ _ _ => false
  | .flw _ _ _ => false
  | .fld _ _ _ => true
  | .fsw _ _ _ => false
  | .fsd _ _ _ => true
  | .fsgnjS _ _ _ => false
  | .fsgnjD _ _ _ => true
  | .fsgnjnS _ _ _ => false
  | .fsgnjnD _ _ _ => true
  | .fsgnjxS _ _ _ => false
  | .fsgnjxD _ _ _ => true
  | .csrrw _ _ _ => false
  | .csrrs _ _ _ => false
  | .jal _ _ => false
  | .jalr _ _ _ => false
  | .lb _ _ _ => false
  | .lbu _ _ _ => false
  | .lh _ _ _ => false
  | .lhu _ _ _ => false
  | .lw _ _ _ => false
  | .lwu _ _ _ => false
  | .ld _ _ _ => false
  | .lui _ _ => false
  | .lrW _ _ _ _ => false
  | .lrD _ _ _ _ => false
  | .mret => false

/-- The rows of extension A: they exist only when `HAS_A` (R109, R343). -/
def Instr.inA : Instr → Bool
  | .faddS _ _ _ _ => false
  | .faddD _ _ _ _ => false
  | .fsubS _ _ _ _ => false
  | .fsubD _ _ _ _ => false
  | .fmulS _ _ _ _ => false
  | .fmulD _ _ _ _ => false
  | .fdivS _ _ _ _ => false
  | .fdivD _ _ _ _ => false
  | .fsqrtS _ _ _ => false
  | .fsqrtD _ _ _ => false
  | .fminS _ _ _ => false
  | .fminD _ _ _ => false
  | .fmaxS _ _ _ => false
  | .fmaxD _ _ _ => false
  | .fmaddS _ _ _ _ _ => false
  | .fmaddD _ _ _ _ _ => false
  | .fmsubS _ _ _ _ _ => false
  | .fmsubD _ _ _ _ _ => false
  | .fnmsubS _ _ _ _ _ => false
  | .fnmsubD _ _ _ _ _ => false
  | .fnmaddS _ _ _ _ _ => false
  | .fnmaddD _ _ _ _ _ => false
  | .feqS _ _ _ => false
  | .feqD _ _ _ => false
  | .fltS _ _ _ => false
  | .fltD _ _ _ => false
  | .fleS _ _ _ => false
  | .fleD _ _ _ => false
  | .fclassS _ _ => false
  | .fclassD _ _ => false
  | .fcvtWS _ _ _ => false
  | .fcvtWuS _ _ _ => false
  | .fcvtLS _ _ _ => false
  | .fcvtLuS _ _ _ => false
  | .fcvtWD _ _ _ => false
  | .fcvtWuD _ _ _ => false
  | .fcvtLD _ _ _ => false
  | .fcvtLuD _ _ _ => false
  | .fcvtSW _ _ _ => false
  | .fcvtSWu _ _ _ => false
  | .fcvtSL _ _ _ => false
  | .fcvtSLu _ _ _ => false
  | .fcvtDW _ _ _ => false
  | .fcvtDWu _ _ _ => false
  | .fcvtDL _ _ _ => false
  | .fcvtDLu _ _ _ => false
  | .fcvtSD _ _ _ => false
  | .fcvtDS _ _ _ => false
  | .fmvXW _ _ => false
  | .fmvWX _ _ => false
  | .fmvXD _ _ => false
  | .fmvDX _ _ => false
  | .fence _ _ _ _ _ => false
  | .fenceI _ _ _ => false
  | .flw _ _ _ => false
  | .fld _ _ _ => false
  | .fsw _ _ _ => false
  | .fsd _ _ _ => false
  | .fsgnjS _ _ _ => false
  | .fsgnjD _ _ _ => false
  | .fsgnjnS _ _ _ => false
  | .fsgnjnD _ _ _ => false
  | .fsgnjxS _ _ _ => false
  | .fsgnjxD _ _ _ => false
  | .csrrw _ _ _ => false
  | .csrrs _ _ _ => false
  | .jal _ _ => false
  | .jalr _ _ _ => false
  | .lb _ _ _ => false
  | .lbu _ _ _ => false
  | .lh _ _ _ => false
  | .lhu _ _ _ => false
  | .lw _ _ _ => false
  | .lwu _ _ _ => false
  | .ld _ _ _ => false
  | .lui _ _ => false
  | .lrW _ _ _ _ => true
  | .lrD _ _ _ _ => true
  | .mret => false

/-- R109: whether a configuration has the instruction. One it lacks raises illegal instruction (R110 (a)). -/
def Instr.presentIn (c : Config) (i : Instr) : Bool :=
  (!i.rv64Only || c.xlen == .rv64) && (!i.inD || c.hasD) && (!i.inA || c.hasA)

/-- The rounding-mode field of an instruction that has one (R105). -/
def Instr.rmField : Instr → Option (BitVec 3)
  | .faddS _ _ _ rm => some rm
  | .faddD _ _ _ rm => some rm
  | .fsubS _ _ _ rm => some rm
  | .fsubD _ _ _ rm => some rm
  | .fmulS _ _ _ rm => some rm
  | .fmulD _ _ _ rm => some rm
  | .fdivS _ _ _ rm => some rm
  | .fdivD _ _ _ rm => some rm
  | .fsqrtS _ _ rm => some rm
  | .fsqrtD _ _ rm => some rm
  | .fminS _ _ _ => none
  | .fminD _ _ _ => none
  | .fmaxS _ _ _ => none
  | .fmaxD _ _ _ => none
  | .fmaddS _ _ _ _ rm => some rm
  | .fmaddD _ _ _ _ rm => some rm
  | .fmsubS _ _ _ _ rm => some rm
  | .fmsubD _ _ _ _ rm => some rm
  | .fnmsubS _ _ _ _ rm => some rm
  | .fnmsubD _ _ _ _ rm => some rm
  | .fnmaddS _ _ _ _ rm => some rm
  | .fnmaddD _ _ _ _ rm => some rm
  | .feqS _ _ _ => none
  | .feqD _ _ _ => none
  | .fltS _ _ _ => none
  | .fltD _ _ _ => none
  | .fleS _ _ _ => none
  | .fleD _ _ _ => none
  | .fclassS _ _ => none
  | .fclassD _ _ => none
  | .fcvtWS _ _ rm => some rm
  | .fcvtWuS _ _ rm => some rm
  | .fcvtLS _ _ rm => some rm
  | .fcvtLuS _ _ rm => some rm
  | .fcvtWD _ _ rm => some rm
  | .fcvtWuD _ _ rm => some rm
  | .fcvtLD _ _ rm => some rm
  | .fcvtLuD _ _ rm => some rm
  | .fcvtSW _ _ rm => some rm
  | .fcvtSWu _ _ rm => some rm
  | .fcvtSL _ _ rm => some rm
  | .fcvtSLu _ _ rm => some rm
  | .fcvtDW _ _ rm => some rm
  | .fcvtDWu _ _ rm => some rm
  | .fcvtDL _ _ rm => some rm
  | .fcvtDLu _ _ rm => some rm
  | .fcvtSD _ _ rm => some rm
  | .fcvtDS _ _ rm => some rm
  | .fmvXW _ _ => none
  | .fmvWX _ _ => none
  | .fmvXD _ _ => none
  | .fmvDX _ _ => none
  | .fence _ _ _ _ _ => none
  | .fenceI _ _ _ => none
  | .flw _ _ _ => none
  | .fld _ _ _ => none
  | .fsw _ _ _ => none
  | .fsd _ _ _ => none
  | .fsgnjS _ _ _ => none
  | .fsgnjD _ _ _ => none
  | .fsgnjnS _ _ _ => none
  | .fsgnjnD _ _ _ => none
  | .fsgnjxS _ _ _ => none
  | .fsgnjxD _ _ _ => none
  | .csrrw _ _ _ => none
  | .csrrs _ _ _ => none
  | .jal _ _ => none
  | .jalr _ _ _ => none
  | .lb _ _ _ => none
  | .lbu _ _ _ => none
  | .lh _ _ _ => none
  | .lhu _ _ _ => none
  | .lw _ _ _ => none
  | .lwu _ _ _ => none
  | .ld _ _ _ => none
  | .lui _ _ => none
  | .lrW _ _ _ _ => none
  | .lrD _ _ _ _ => none
  | .mret => none

end Sys2Proof
end

