-- ==== Sys2Proof/WellFormed.lean ====
section
/-! DEFINITION. Which instructions and which configurations are well formed. -/

namespace Sys2Proof

/-- A rounding-mode field that is not reserved: not `101` or `110` (R105, R111). -/
def rmFieldValid (rm : BitVec 3) : Bool := rm != 0b101 && rm != 0b110

/-- A well-formed instruction of a configuration: the configuration has its row (R109), and its rounding-mode field,
where it has one, is not reserved (R111). An instruction that is not well formed is still decoded and executed: it
raises illegal instruction (R110 (a), R111). -/
def Instr.wellFormed (c : Config) (i : Instr) : Bool :=
  i.presentIn c && match i.rmField with
    | some rm => rmFieldValid rm
    | none => true

/-- `2^XLEN`, the size of the address space in bytes (R46). -/
def Config.space (c : Config) : Nat :=
  match c.xlen with
  | .rv32 => 2 ^ 32
  | .rv64 => 2 ^ 64

/-- Whether a region holds the byte at address `n`. -/
def Region.holds (r : Region) (n : Nat) : Bool := decide (r.base ≤ n) && decide (n < r.base + r.size)

/-- Whether a stretch of `CODE` holds the byte at address `n`. -/
def Span.holds (p : Span) (n : Nat) : Bool := decide (p.base ≤ n) && decide (n < p.base + p.size)

/-- A well-formed configuration (R7): `RESET_PC` is an XLEN-bit value and 4-byte aligned, every region of `MemMap`
lies in the address space (R46), every stretch of `CODE` lies within one region of `MemMap`, and `HALT` is an XLEN-bit
value. -/
def Config.wellFormed (c : Config) : Bool :=
  decide (c.resetPc.toNat < c.space) && decide (c.resetPc.toNat % 4 = 0) &&
  c.memMap.all (fun r => decide (r.base + r.size ≤ c.space)) &&
  c.code.all (fun p => c.memMap.any (fun r => decide (r.base ≤ p.base) && decide (p.base + p.size ≤ r.base + r.size))) &&
  (match c.halt with
    | some h => decide (h.toNat < c.space)
    | none => true)

end Sys2Proof
end

