-- ==== Sys2Proof/Machine/Ops.lean ====
section
/-! DEFINITION. The named operations over registers, memory and the trap mechanism (files 10, 20, 60). -/

namespace Sys2Proof.Machine

/-! ### Widths -/

/-- The low XLEN bits, the rest zero: an XLEN-bit value in its carrier (R7, R15; notes/assumptions/2.md). -/
def fit (c : Config) (v : Word) : Word :=
  match c.xlen with
  | .rv32 => (v.setWidth 32).setWidth 64
  | .rv64 => v

/-- The low FLEN bits, the rest zero (R27; notes/assumptions/26.md). -/
def fitF (c : Config) (v : Word) : Word := if c.hasD then v else (v.setWidth 32).setWidth 64

/-- `sext_XLEN(v)` (R11). -/
def sext (c : Config) {w : Nat} (v : BitVec w) : Word := fit c (v.signExtend 64)

/-- `zext_XLEN(v)` (R11). -/
def zext (c : Config) {w : Nat} (v : BitVec w) : Word := fit c (v.setWidth 64)

/-! ### Registers and the program counter -/

/-- `x[i]` (R10, R21): `x[0]` reads as 0. -/
def readX (s : State) (i : XReg) : Word := if i = 0 then 0 else fit s.cfg (s.x[i.toNat])

/-- `x[i] <- v` (R10, R21): a write to `x[0]` has no effect. -/
def writeX (i : XReg) (v : Word) (s : State) : State :=
  if i = 0 then s else { s with x := s.x.set i.toNat (fit s.cfg v) }

/-- `f[i]`, all FLEN bits (R10, R27). -/
def readF (s : State) (i : FReg) : Word := fitF s.cfg (s.f[i.toNat])

/-- `f[i] <- v` (R10, R27): no floating-point register is hardwired. -/
def writeF (i : FReg) (v : Word) (s : State) : State := { s with f := s.f.set i.toNat (fitF s.cfg v) }

/-- `pc` (R24). -/
def readPc (s : State) : Word := fit s.cfg s.pc

/-- `pc <- t` (R14). -/
def jumpTo (t : Word) (s : State) : State := { s with pc := fit s.cfg t }

/-- `pc + 4`, modulo `2^XLEN` (R15, R25). -/
def nextPc (s : State) : Word := fit s.cfg (readPc s + 4)

/-- `pc <- pc + 4` (R14, R25). -/
def advance (s : State) : State := jumpTo (nextPc s) s

/-- Whether `a` is a multiple of IALIGN/8, as a jump target and `pc` must be (R26, R322). -/
def pcAligned (c : Config) (a : Word) : Bool :=
  match c.ialign with
  | .i16 => a.toNat % 2 == 0
  | .i32 => a.toNat % 4 == 0

/-- `a & ~(IALIGN/8 - 1)` (R38, R372). -/
def pcMask (c : Config) (a : Word) : Word :=
  match c.ialign with
  | .i16 => a &&& ~~~ 1
  | .i32 => a &&& ~~~ 3

/-- `mepc`, whose low bits always read zero (R38). -/
def readMepc (s : State) : Word := fit s.cfg (pcMask s.cfg s.mepc)

/-- Which of the two legal modes a draw stands for. -/
def privOfBool (b : Bool) : Priv := if b then .machine else .user

/-! ### Memory (R46, R60, R61) -/

/-- What a byte that the memory does not list reads as: nothing. Reading it ends in the fault `unwrittenByte`
(DESIGN CHOICE, safe: R50, R401, I22; notes/assumptions/7.md). -/
def unlistedByte (_addr : Nat) : Option Byte := none

/-- The byte at an address, if it has a value (R60). -/
def memByte : List Host.Cell → Nat → Option Byte
  | [], a => unlistedByte a
  | (k, b) :: m, a => if k = a then some b else memByte m a

/-- The memory with `(a, b)` before `m`, unless an unlisted `a` reads as `b` anyway. -/
def memCons (a : Nat) (b : Byte) (m : List Host.Cell) : List Host.Cell :=
  if unlistedByte a = some b then m else (a, b) :: m

/-- `M[a] <- b` (R60), keeping the canonical form. -/
def memSet : List Host.Cell → Nat → Byte → List Host.Cell
  | [], a, b => memCons a b []
  | (k, v) :: m, a, b =>
    if a < k then memCons a b ((k, v) :: m)
    else if a = k then memCons a b m
    else (k, v) :: memSet m a b

/-- The canonical form of the memory: addresses strictly rising and inside the address space, and no entry equal to
what an unlisted address reads as. `lo` is the least address that may come next. -/
def memWfFrom (space : Nat) : Nat → List Host.Cell → Bool
  | _, [] => true
  | lo, (k, b) :: m =>
    decide (lo ≤ k) && decide (k < space) && decide (unlistedByte k ≠ some b) && memWfFrom space (k + 1) m

/-- The canonical form of the memory of a configuration. -/
def Memory.wf (c : Config) (m : List Host.Cell) : Bool := memWfFrom c.space 0 m

/-- The address of byte `k` of an access at `a`: addresses are modulo `2^XLEN` (R46, R61). -/
def byteAddr (c : Config) (a : Word) (k : Nat) : Nat := (a.toNat + k) % c.space

/-- Byte `k` of a value: bits `8k+7` to `8k` (R61). -/
def byteOf (v : Word) (k : Nat) : Byte := v.extractLsb' (8 * k) 8

/-- The value of `n` bytes at `a`, little-endian (R61), or the address of a byte that has no value. -/
def readBytes (c : Config) (m : List Host.Cell) (a : Word) : Nat → Except Nat Word
  | 0 => .ok 0
  | k + 1 =>
    match readBytes c m a k with
    | .error p => .error p
    | .ok lo =>
      match memByte m (byteAddr c a k) with
      | none => .error (byteAddr c a k)
      | some b => .ok (lo ||| b.setWidth 64 <<< (8 * k))

/-- `M[a+i] <- v[8i+7:8i]` for those `i` below `n` that `take` picks (R61). -/
def writeBytes (c : Config) (take : Nat → Bool) (a v : Word) : Nat → List Host.Cell → List Host.Cell
  | 0, m => m
  | k + 1, m =>
    if take k then memSet (writeBytes c take a v k m) (byteAddr c a k) (byteOf v k) else writeBytes c take a v k m

/-! ### Access rights (R67, R68; notes/assumptions/28.md) -/

/-- Whether the byte at address `n` is in a readable region (R68). -/
def readableAt (c : Config) (n : Nat) : Bool := c.memMap.any fun r => r.readable && r.holds n
/-- Whether the byte at address `n` is in a writable region (R68). -/
def writableAt (c : Config) (n : Nat) : Bool := c.memMap.any fun r => r.writable && r.holds n
/-- Whether the byte at address `n` is in an executable region (R68). -/
def executableAt (c : Config) (n : Nat) : Bool := c.memMap.any fun r => r.executable && r.holds n
/-- Whether the byte at address `n` is a byte of `CODE` (R48, R68). -/
def codeAt (c : Config) (n : Nat) : Bool := c.code.any fun p => p.holds n

/-- Whether all `n` bytes of an access at `a` satisfy `p`. -/
def allBytes (c : Config) (p : Nat → Bool) (a : Word) (n : Nat) : Bool :=
  (List.range n).all fun k => p (byteAddr c a k)

/-- Whether some byte of an access of `n` bytes at `a` satisfies `p`. -/
def someByte (c : Config) (p : Nat → Bool) (a : Word) (n : Nat) : Bool :=
  (List.range n).any fun k => p (byteAddr c a k)

/-- Natural alignment of an access of `n` bytes (R62). -/
def isAligned (a : Word) (n : Nat) : Bool := a.toNat % n == 0

/-! ### Taking an exception and returning from one (R372, R377, R345) -/

/-- The code that trap entry writes to `mcause` (R360). -/
def excCode : Exc → Word
  | .instructionAddressMisaligned => 0
  | .instructionAccessFault => 1
  | .illegalInstruction => 2
  | .loadAddressMisaligned => 4
  | .loadAccessFault => 5
  | .storeAddressMisaligned => 6
  | .storeAccessFault => 7

/-- The address a trap goes to: `mtvec & ~3` (R39, R372, R373). -/
def trapVector (s : State) : Word := fit s.cfg (s.mtvec &&& ~~~ 3)

/-- Trap entry (R372): `mepc`, `mcause` and `mtval` are written, `MPIE`, `MIE`, `MPP` shuffled, the mode becomes
machine and `pc` the vector base. Nothing else changes (R371, R372). -/
def trapEntry (e : Exc) (tv : Word) (s : State) : State :=
  { s with
    mepc := fit s.cfg (pcMask s.cfg s.pc)
    mcause := excCode e
    mtval := fit s.cfg tv
    mstatus := { s.mstatus with mpie := s.mstatus.mie, mie := false, mpp := s.priv }
    priv := .machine
    pc := trapVector s }

/-- `raise E(tv)` (R13): trap entry under the full option, the end of the run under the terminal one (R377, D12). -/
def raise (e : Exc) (tv : Word) (s : State) : Out :=
  match s.cfg.traps with
  | .full => .next (trapEntry e tv s)
  | .terminal => .fault (.terminal e (readPc s) (fit s.cfg tv))

/-- The state after a return from a trap (R345): all reads precede all writes (R18). -/
def trapReturn (s : State) : State :=
  { s with
    mstatus :=
      { s.mstatus with
        mie := s.mstatus.mpie
        mpie := true
        mpp := if s.cfg.hasU then .user else s.mstatus.mpp }
    priv := s.mstatus.mpp
    pc := readMepc s }

/-- `raise IllegalInstruction(insn)` for the word `w` (R363): the trap value is the word, zero-extended (R360). -/
def illegalWord (w : Insn) (s : State) : Out := raise .illegalInstruction (w.setWidth 64) s

/-- `raise IllegalInstruction(insn)` for an instruction: its word is its encoding. -/
def illegal (i : Instr) (s : State) : Out := illegalWord (encode i) s

/-! ### Loads and stores (R62, R63, R68, R270, R330) -/

/-- What an access of memory finds. -/
inductive Access where
  /-- The value read, zero-extended. -/
  | value (v : Word)
  /-- The exception to raise, with the effective address as trap value (R364). -/
  | exception (e : Exc)
  /-- A byte that has no value. -/
  | unwritten (addr : Nat)
  deriving DecidableEq, Repr

/-- Whether an access of `n` bytes at `a` raises address-misaligned: when `MISALIGNED` is `trap` (R62), and for `lr`
(`strict`) always (R63). -/
def misalignedTraps (c : Config) (strict : Bool) (a : Word) (n : Nat) : Bool :=
  !isAligned a n && (strict || c.misaligned == .trap)

/-- A load of `n` bytes at `a`: alignment first, then access rights (R270, R330, R343, R370). -/
def loadAccess (s : State) (strict : Bool) (a : Word) (n : Nat) : Access :=
  if misalignedTraps s.cfg strict a n then .exception .loadAddressMisaligned
  else if !allBytes s.cfg (readableAt s.cfg) a n then .exception .loadAccessFault
  else match readBytes s.cfg s.mem a n with
    | .error p => .unwritten p
    | .ok v => .value v

/-- A load of `n` bytes at `a`, and the state `k v` after it when it gives `v`. -/
def loadThen (s : State) (strict : Bool) (a : Word) (n : Nat) (k : Word → State) : Out :=
  match loadAccess s strict a n with
  | .value v => .next (k v)
  | .exception e => raise e a s
  | .unwritten p => .fault (.unwrittenByte p)

/-- Which bytes a split store that faults has written (R62): a free value among the writable ones. -/
def splitTake (s : State) (a : Word) (k : Nat) : Bool :=
  (Config.freeWord s.draws).getLsbD k && writableAt s.cfg (byteAddr s.cfg a k)

/-- The state of a split store of `n` bytes that faults (R62): which of the writable bytes were written is a free value
(notes/assumptions/14.md). -/
def splitPartial (s : State) (a v : Word) (n : Nat) : State :=
  { s with mem := writeBytes s.cfg (splitTake s a) a v n s.mem, draws := s.draws + 1 }

/-- `MemWrite(a, n, v)`, all `n` bytes (R61). -/
def storeBytes (s : State) (a v : Word) (n : Nat) : State :=
  { s with mem := writeBytes s.cfg (fun _ => true) a v n s.mem }

/-- Whether some byte of the access may be written and is a byte of `CODE`. -/
def touchesCode (c : Config) (a : Word) (n : Nat) : Bool := someByte c (fun p => writableAt c p && codeAt c p) a n

/-- A store of the low `n` bytes of `v` at `a`, and the state `k` makes of the state after it: alignment first, then
access rights (R270, R370), then the refusal of a store to `CODE` (R68). -/
def storeThen (s : State) (a v : Word) (n : Nat) (k : State → State) : Out :=
  if misalignedTraps s.cfg false a n then raise .storeAddressMisaligned a s
  else if !allBytes s.cfg (writableAt s.cfg) a n then
    if isAligned a n then raise .storeAccessFault a s
    else if touchesCode s.cfg a n then .refused (.storeToCode a)
    else raise .storeAccessFault a (splitPartial s a v n)
  else if touchesCode s.cfg a n then .refused (.storeToCode a)
  else .next (k (storeBytes s a v n))

end Sys2Proof.Machine
end

