-- ==== Sys2Proof/Machine/Operands.lean ====
section
/-! DEFINITION. The operand forms of the instructions, the control and status registers, and the common frame of a
floating-point instruction (R155). -/

namespace Sys2Proof.Machine

/-! ### Immediates and effective addresses (R99 to R102) -/

/-- The effective address `x[rs1] + offset` of the I and S formats, modulo `2^XLEN` (R15, R99, R100). -/
def effAddr (s : State) (rs1 : XReg) (imm : BitVec 12) : Word := fit s.cfg (readX s rs1 + sext s.cfg imm)

/-- The value of a `lui` immediate: the 20 bits above 12 zero bits, sign-extended from 32 bits (R101). -/
def luiValue (c : Config) (imm : BitVec 20) : Word := sext c (imm ++ 0#12)

/-- The byte offset of a `jal`: 21 bits, of which bit 0 is zero, sign-extended (R102). -/
def jalOffset (c : Config) (off : BitVec 20) : Word := sext c (off ++ 0#1)

/-- The target of a `jal` (R320). -/
def jalTarget (s : State) (off : BitVec 20) : Word := fit s.cfg (readPc s + jalOffset s.cfg off)

/-- The target of a `jalr`: bit 0 cleared (R321). -/
def jalrTarget (s : State) (rs1 : XReg) (imm : BitVec 12) : Word := effAddr s rs1 imm &&& ~~~ 1

/-! ### Floating-point operands (R150 to R152) -/

/-- `cNaN32` (R133). -/
def cNan32 : BitVec 32 := 0x7fc00000

/-- `box(v)` (R150). -/
def box (c : Config) (v : BitVec 32) : Word := if c.hasD then 0xffffffff#32 ++ v else v.setWidth 64

/-- `unbox(v)` (R151). -/
def unbox (c : Config) (v : Word) : BitVec 32 :=
  if c.hasD then if v.extractLsb' 32 32 = 0xffffffff#32 then v.setWidth 32 else cNan32 else v.setWidth 32

/-- A single-precision operand: `unbox(f[i])` (R151). -/
def readFS (s : State) (i : FReg) : BitVec 32 := unbox s.cfg (readF s i)

/-- A double-precision operand: all 64 bits of `f[i]` (R152). -/
def readFD (s : State) (i : FReg) : BitVec 64 := readF s i

/-- The raw low half of `f[i]`, which `fsw` and `fmv.x.w` read (R151). -/
def readFLow (s : State) (i : FReg) : BitVec 32 := (readF s i).setWidth 32

/-- The low 32 bits of `x[i]`, which the 32-bit conversions and `fmv.w.x` read (R222, R251). -/
def readXLow (s : State) (i : XReg) : BitVec 32 := (readX s i).setWidth 32

/-! ### Rounding modes (R32, R136) -/

/-- The rounding mode that a 3-bit value names, if it is one (R32). -/
def roundingModeOf (v : BitVec 3) : Option RoundingMode :=
  if v = 0b000 then some .rne
  else if v = 0b001 then some .rtz
  else if v = 0b010 then some .rdn
  else if v = 0b011 then some .rup
  else if v = 0b100 then some .rmm
  else none

/-- `RM(insn)` (R136): the mode of the field, or of `frm` when the field is `111`; none where the instruction is
illegal (R111). -/
def resolveRm (rm frm : BitVec 3) : Option RoundingMode :=
  if rm = 0b111 then roundingModeOf frm else roundingModeOf rm

/-! ### The floating-point state: `fcsr` and `FS` (R16, R37) -/

/-- `FS <- 3` (R37). -/
def markDirty (s : State) : State := { s with mstatus := { s.mstatus with fs := 3 } }

/-- The value of `FS` after a floating-point instruction that changed no floating-point state: unchanged or 3, a free
value (R37, I13; notes/assumptions/12.md). -/
def drawnFs (s : State) : BitVec 2 := if (Config.freeWord s.draws).getLsbD 0 then 3 else s.mstatus.fs

/-- `FS` after a floating-point instruction that changed no floating-point state (R37). -/
def settleFs (s : State) : State :=
  { s with mstatus := { s.mstatus with fs := drawnFs s }, draws := s.draws + 1 }

/-- `fflags |= fl` (R16, R140). -/
def accrue (fl : FFlags) (s : State) : State := { s with fcsr := fcsrAccrue s.fcsr fl }

/-- The end of an instruction that writes `f[rd]`: the write, the flags, `FS`, `pc` (R155). -/
def finishF (rd : FReg) (v : Word) (fl : FFlags) (s : State) : State :=
  advance (markDirty (accrue fl (writeF rd v s)))

/-- The end of a floating-point instruction that writes `x[rd]`: `FS` becomes 3 where a bit of `fcsr` changed (R37,
R155, R207). -/
def finishX (rd : XReg) (v : Word) (fl : FFlags) (s : State) : State :=
  advance (writeX rd v (if fcsrAccrue s.fcsr fl = s.fcsr then settleFs s else markDirty (accrue fl s)))

/-- The end of an integer instruction that writes `x[rd]`. -/
def finishInt (rd : XReg) (v : Word) (s : State) : State := advance (writeX rd v s)

/-- A single-precision result and its flags, delivered to `f[rd]` boxed (R150, R155). -/
def deliverS (rd : FReg) (r : BitVec 32 × FFlags) (s : State) : Out := .next (finishF rd (box s.cfg r.1) r.2 s)

/-- A double-precision result and its flags, delivered to `f[rd]` (R152, R155). -/
def deliverD (rd : FReg) (r : BitVec 64 × FFlags) (s : State) : Out := .next (finishF rd r.1 r.2 s)

/-- An integer result of width `w` and its flags, sign-extended into `x[rd]` (R221, R155). -/
def deliverX (rd : XReg) {w : Nat} (r : BitVec w × FFlags) (s : State) : Out :=
  .next (finishX rd (sext s.cfg r.1) r.2 s)

/-! ### The common frame (R109, R110, R155) -/

/-- `k`, or illegal instruction when the configuration lacks the instruction (R110 (a)). -/
def present (i : Instr) (s : State) (k : Out) : Out := if i.presentIn s.cfg then k else illegal i s

/-- `k`, or illegal instruction when the configuration lacks the instruction or `FS` is 0 (R37, R155). -/
def fpFrame (i : Instr) (s : State) (k : Out) : Out :=
  present i s (if s.mstatus.fs = 0 then illegal i s else k)

/-- `k` at the rounding mode of the instruction, or illegal instruction (R111, R136). -/
def fpRounded (i : Instr) (rm : BitVec 3) (s : State) (k : RoundingMode → Out) : Out :=
  fpFrame i s <|
    match resolveRm rm (fcsrFrm s.fcsr) with
    | some mode => k mode
    | none => illegal i s

/-! ### Control and status registers (R30 to R42, R303) -/

/-- The CSR of a number, if the model has it (R40, R103). -/
def csrOfNum (n : BitVec 12) : Option Csr :=
  if n = 0x001 then some .fflags
  else if n = 0x002 then some .frm
  else if n = 0x003 then some .fcsr
  else if n = 0x300 then some .mstatus
  else if n = 0x305 then some .mtvec
  else if n = 0x341 then some .mepc
  else if n = 0x342 then some .mcause
  else if n = 0x343 then some .mtval
  else none

/-- Whether a CSR is `fflags`, `frm` or `fcsr`, which `FS` gates (R34). -/
def Csr.isFp : Csr → Bool
  | .fflags => true
  | .frm => true
  | .fcsr => true
  | .mstatus => false
  | .mtvec => false
  | .mepc => false
  | .mcause => false
  | .mtval => false

/-- The encoding of a mode in 2 bits (R36). -/
def privBits : Priv → BitVec 2
  | .user => 0
  | .machine => 3

/-- The lowest privilege that may access a CSR number, and the current one, compared (R42). -/
def csrPrivileged (n : BitVec 12) (p : Priv) : Bool := decide ((n.extractLsb' 8 2).toNat ≤ (privBits p).toNat)

/-- `mstatus` as a CSR instruction reads it (R35): the four fields, `SD` at bit XLEN-1, and `UXL`, which reads 2 on
RV64 with user mode (PRESUMED at bits 33:32, notes/assumptions/19.md); zeros elsewhere. -/
def mstatusRead (c : Config) (m : Mstatus) : Word :=
  let low : Word :=
    (BitVec.ofBool m.mie).setWidth 64 <<< 3 ||| (BitVec.ofBool m.mpie).setWidth 64 <<< 7 |||
      (privBits m.mpp).setWidth 64 <<< 11 ||| m.fs.setWidth 64 <<< 13
  let sd : Word := (BitVec.ofBool (m.fs == 3)).setWidth 64
  match c.xlen with
  | .rv32 => low ||| sd <<< 31
  | .rv64 => low ||| sd <<< 63 ||| (if c.hasU then 2 <<< 32 else 0)

/-- `csr_read` (R303). -/
def csrRead (s : State) : Csr → Word
  | .fflags => (fcsrFlags s.fcsr).setWidth 64
  | .frm => (fcsrFrm s.fcsr).setWidth 64
  | .fcsr => s.fcsr.setWidth 64
  | .mstatus => mstatusRead s.cfg s.mstatus
  | .mtvec => fit s.cfg s.mtvec
  | .mepc => readMepc s
  | .mcause => fit s.cfg s.mcause
  | .mtval => fit s.cfg s.mtval

/-- `fcsr[7:0] <- v; FS <- 3` (R34, R303). -/
def setFcsr (v : BitVec 8) (s : State) : State := markDirty { s with fcsr := v }

/-- The fields of `mstatus` that a write sets directly (R303). -/
def setMstatus (v : Word) (mpp : Priv) (s : State) : State :=
  { s with mstatus := { mie := v.getLsbD 3, mpie := v.getLsbD 7, mpp := mpp, fs := v.extractLsb' 13 2 } }

/-- `csr_write` to `mstatus` (R35, R303): `MPP <- legal(v[12:11])`. A value that is not supported leaves a legal one:
machine mode when there is no other, else a free value (I12; notes/assumptions/13.md). -/
def writeMstatus (v : Word) (s : State) : State :=
  if v.extractLsb' 11 2 = 3#2 then setMstatus v .machine s
  else if s.cfg.hasU then
    if v.extractLsb' 11 2 = 0#2 then setMstatus v .user s
    else { setMstatus v (privOfBool ((Config.freeWord s.draws).getLsbD 0)) s with draws := s.draws + 1 }
  else setMstatus v .machine s

/-- `csr_write` to `mtvec` (R39, R303): a mode of 2 or 3 keeps the old mode. -/
def mtvecValue (old v : Word) : Word := if v.getLsbD 1 then (v &&& ~~~ 3) ||| (old &&& 3) else v

/-- `csr_write` (R303). -/
def csrWrite (r : Csr) (v : Word) (s : State) : State :=
  match r with
  | .fflags => setFcsr (fcsrMake (fcsrFrm s.fcsr) (v.setWidth 5)) s
  | .frm => setFcsr (fcsrMake (v.setWidth 3) (fcsrFlags s.fcsr)) s
  | .fcsr => setFcsr (v.setWidth 8) s
  | .mstatus => writeMstatus v s
  | .mtvec => { s with mtvec := fit s.cfg (mtvecValue s.mtvec v) }
  | .mepc => { s with mepc := fit s.cfg (pcMask s.cfg v) }
  | .mcause => { s with mcause := fit s.cfg v }
  | .mtval => { s with mtval := fit s.cfg v }

/-- `check_csr` (R303), then `k` at the register: a number the model does not have is refused (R40), too low a
privilege (R42) and a floating-point CSR with `FS` 0 (R34) are illegal. None of the eight is read-only. All eight are
there under both trap options: under the terminal one R377 drops `mcause`, `mtval` and `mtvec`, and the model keeps them
(DESIGN CHOICE, notes/assumptions/35.md). -/
def csrFrame (i : Instr) (n : BitVec 12) (s : State) (k : Csr → Out) : Out :=
  match csrOfNum n with
  | none => .refused (.unmodelledCsr n)
  | some r =>
    if !csrPrivileged n s.priv then illegal i s
    else if r.isFp && s.mstatus.fs == 0 then illegal i s
    else k r

/-- The state after a CSR instruction that writes nothing: `FS` may become 3 when the register is a floating-point one
(R37, I13). -/
def csrUnwritten (r : Csr) (s : State) : State := if r.isFp then settleFs s else s

end Sys2Proof.Machine
end

