-- ==== Sys2Proof/Machine/CsrAccess.lean ====
section
/-! DEFINITION. Access to the control and status registers (spec/47_fp_csr_access.md). -/

namespace Sys2Proof.Machine

/-- `csrrw` (R300): with `rd = x0` the unread value has no reader (R300). -/
def execCsrrw (rd rs1 : XReg) (csr : BitVec 12) (s : State) : Out :=
  csrFrame (.csrrw rd rs1 csr) csr s fun r => .next (finishInt rd (csrRead s r) (csrWrite r (readX s rs1) s))

/-- `csrrs` (R301): with `rs1 = x0` nothing is written (R301). -/
def execCsrrs (rd rs1 : XReg) (csr : BitVec 12) (s : State) : Out :=
  csrFrame (.csrrs rd rs1 csr) csr s fun r =>
    .next (finishInt rd (csrRead s r)
      (if rs1 = 0 then csrUnwritten r s else csrWrite r (csrRead s r ||| readX s rs1) s))

end Sys2Proof.Machine
end

