-- ==== Sys2Proof/Machine/Fence.lean ====
section
/-! DEFINITION. Fence instructions (spec/44_fence.md). In a model of one hart they change only `pc` (R75, R80, R262). -/

namespace Sys2Proof.Machine

/-- `fence` (R260): no register is read and `fm`, `rs1`, `rd` are ignored (R113). -/
def execFence (_fm _pred _succ : BitVec 4) (_rs1 _rd : XReg) (s : State) : Out :=
  .next (advance s)

/-- `fence.i` (R261): the program text is immutable (R80). -/
def execFenceI (_imm : BitVec 12) (_rs1 _rd : XReg) (s : State) : Out :=
  .next (advance s)

end Sys2Proof.Machine
end

