-- ==== Sys2Proof/Machine/FpArith.lean ====
section
/-! DEFINITION. Floating-point arithmetic: add, subtract, multiply, divide, square root, minimum, maximum, fused multiply-add
(spec/41_fp_arith.md). Flags and exceptions are those of the common frame (R155, R198). -/

namespace Sys2Proof.Machine

/-- `fadd.s` (R170). -/
def execFaddS (rd rs1 rs2 : FReg) (rm : BitVec 3) (s : State) : Out :=
  fpRounded (.faddS rd rs1 rs2 rm) rm s fun mode =>
    deliverS rd ((numericsOf s.cfg).add .single mode (readFS s rs1) (readFS s rs2)) s

/-- `fadd.d` (R171). -/
def execFaddD (rd rs1 rs2 : FReg) (rm : BitVec 3) (s : State) : Out :=
  fpRounded (.faddD rd rs1 rs2 rm) rm s fun mode =>
    deliverD rd ((numericsOf s.cfg).add .double mode (readFD s rs1) (readFD s rs2)) s

/-- `fsub.s` (R172): the minuend is `rs1`. -/
def execFsubS (rd rs1 rs2 : FReg) (rm : BitVec 3) (s : State) : Out :=
  fpRounded (.fsubS rd rs1 rs2 rm) rm s fun mode =>
    deliverS rd ((numericsOf s.cfg).sub .single mode (readFS s rs1) (readFS s rs2)) s

/-- `fsub.d` (R173): the minuend is `rs1`. -/
def execFsubD (rd rs1 rs2 : FReg) (rm : BitVec 3) (s : State) : Out :=
  fpRounded (.fsubD rd rs1 rs2 rm) rm s fun mode =>
    deliverD rd ((numericsOf s.cfg).sub .double mode (readFD s rs1) (readFD s rs2)) s

/-- `fmul.s` (R174). -/
def execFmulS (rd rs1 rs2 : FReg) (rm : BitVec 3) (s : State) : Out :=
  fpRounded (.fmulS rd rs1 rs2 rm) rm s fun mode =>
    deliverS rd ((numericsOf s.cfg).mul .single mode (readFS s rs1) (readFS s rs2)) s

/-- `fmul.d` (R175). -/
def execFmulD (rd rs1 rs2 : FReg) (rm : BitVec 3) (s : State) : Out :=
  fpRounded (.fmulD rd rs1 rs2 rm) rm s fun mode =>
    deliverD rd ((numericsOf s.cfg).mul .double mode (readFD s rs1) (readFD s rs2)) s

/-- `fdiv.s` (R176): the dividend is `rs1`. -/
def execFdivS (rd rs1 rs2 : FReg) (rm : BitVec 3) (s : State) : Out :=
  fpRounded (.fdivS rd rs1 rs2 rm) rm s fun mode =>
    deliverS rd ((numericsOf s.cfg).div .single mode (readFS s rs1) (readFS s rs2)) s

/-- `fdiv.d` (R177): the dividend is `rs1`. -/
def execFdivD (rd rs1 rs2 : FReg) (rm : BitVec 3) (s : State) : Out :=
  fpRounded (.fdivD rd rs1 rs2 rm) rm s fun mode =>
    deliverD rd ((numericsOf s.cfg).div .double mode (readFD s rs1) (readFD s rs2)) s

/-- `fsqrt.s` (R178). -/
def execFsqrtS (rd rs1 : FReg) (rm : BitVec 3) (s : State) : Out :=
  fpRounded (.fsqrtS rd rs1 rm) rm s fun mode =>
    deliverS rd ((numericsOf s.cfg).sqrt .single mode (readFS s rs1)) s

/-- `fsqrt.d` (R179). -/
def execFsqrtD (rd rs1 : FReg) (rm : BitVec 3) (s : State) : Out :=
  fpRounded (.fsqrtD rd rs1 rm) rm s fun mode =>
    deliverD rd ((numericsOf s.cfg).sqrt .double mode (readFD s rs1)) s

/-- `fmin.s` (R180). -/
def execFminS (rd rs1 rs2 : FReg) (s : State) : Out :=
  fpFrame (.fminS rd rs1 rs2) s (deliverS rd (fpMinMax .single false (readFS s rs1) (readFS s rs2)) s)

/-- `fmin.d` (R181). -/
def execFminD (rd rs1 rs2 : FReg) (s : State) : Out :=
  fpFrame (.fminD rd rs1 rs2) s (deliverD rd (fpMinMax .double false (readFD s rs1) (readFD s rs2)) s)

/-- `fmax.s` (R182). -/
def execFmaxS (rd rs1 rs2 : FReg) (s : State) : Out :=
  fpFrame (.fmaxS rd rs1 rs2) s (deliverS rd (fpMinMax .single true (readFS s rs1) (readFS s rs2)) s)

/-- `fmax.d` (R183). -/
def execFmaxD (rd rs1 rs2 : FReg) (s : State) : Out :=
  fpFrame (.fmaxD rd rs1 rs2) s (deliverD rd (fpMinMax .double true (readFD s rs1) (readFD s rs2)) s)

/-- `fmadd.s` (R190): `rs1 × rs2 + rs3`. -/
def execFmaddS (rd rs1 rs2 rs3 : FReg) (rm : BitVec 3) (s : State) : Out :=
  fpRounded (.fmaddS rd rs1 rs2 rs3 rm) rm s fun mode =>
    deliverS rd ((numericsOf s.cfg).fma .single mode (readFS s rs1) (readFS s rs2) (readFS s rs3)) s

/-- `fmadd.d` (R191): `rs1 × rs2 + rs3`. -/
def execFmaddD (rd rs1 rs2 rs3 : FReg) (rm : BitVec 3) (s : State) : Out :=
  fpRounded (.fmaddD rd rs1 rs2 rs3 rm) rm s fun mode =>
    deliverD rd ((numericsOf s.cfg).fma .double mode (readFD s rs1) (readFD s rs2) (readFD s rs3)) s

/-- `fmsub.s` (R192): `rs1 × rs2 - rs3`. -/
def execFmsubS (rd rs1 rs2 rs3 : FReg) (rm : BitVec 3) (s : State) : Out :=
  fpRounded (.fmsubS rd rs1 rs2 rs3 rm) rm s fun mode =>
    deliverS rd ((numericsOf s.cfg).fma .single mode (readFS s rs1) (readFS s rs2)
      (fpNeg .single (readFS s rs3))) s

/-- `fmsub.d` (R193): `rs1 × rs2 - rs3`. -/
def execFmsubD (rd rs1 rs2 rs3 : FReg) (rm : BitVec 3) (s : State) : Out :=
  fpRounded (.fmsubD rd rs1 rs2 rs3 rm) rm s fun mode =>
    deliverD rd ((numericsOf s.cfg).fma .double mode (readFD s rs1) (readFD s rs2)
      (fpNeg .double (readFD s rs3))) s

/-- `fnmsub.s` (R194): `-(rs1 × rs2) + rs3`. -/
def execFnmsubS (rd rs1 rs2 rs3 : FReg) (rm : BitVec 3) (s : State) : Out :=
  fpRounded (.fnmsubS rd rs1 rs2 rs3 rm) rm s fun mode =>
    deliverS rd ((numericsOf s.cfg).fma .single mode
      (fpNeg .single (readFS s rs1)) (readFS s rs2) (readFS s rs3)) s

/-- `fnmsub.d` (R195): `-(rs1 × rs2) + rs3`. -/
def execFnmsubD (rd rs1 rs2 rs3 : FReg) (rm : BitVec 3) (s : State) : Out :=
  fpRounded (.fnmsubD rd rs1 rs2 rs3 rm) rm s fun mode =>
    deliverD rd ((numericsOf s.cfg).fma .double mode
      (fpNeg .double (readFD s rs1)) (readFD s rs2) (readFD s rs3)) s

/-- `fnmadd.s` (R196): `-(rs1 × rs2) - rs3`. -/
def execFnmaddS (rd rs1 rs2 rs3 : FReg) (rm : BitVec 3) (s : State) : Out :=
  fpRounded (.fnmaddS rd rs1 rs2 rs3 rm) rm s fun mode =>
    deliverS rd ((numericsOf s.cfg).fma .single mode
      (fpNeg .single (readFS s rs1)) (readFS s rs2) (fpNeg .single (readFS s rs3))) s

/-- `fnmadd.d` (R197): `-(rs1 × rs2) - rs3`. -/
def execFnmaddD (rd rs1 rs2 rs3 : FReg) (rm : BitVec 3) (s : State) : Out :=
  fpRounded (.fnmaddD rd rs1 rs2 rs3 rm) rm s fun mode =>
    deliverD rd ((numericsOf s.cfg).fma .double mode
      (fpNeg .double (readFD s rs1)) (readFD s rs2) (fpNeg .double (readFD s rs3))) s

end Sys2Proof.Machine
end

