-- ==== Sys2Proof/Machine/FpCompare.lean ====
section
/-! DEFINITION. Floating-point compare and classify (spec/42_fp_classify_compare.md). -/

namespace Sys2Proof.Machine

/-- `feq.s` (R201). -/
def execFeqS (rd : XReg) (rs1 rs2 : FReg) (s : State) : Out :=
  fpFrame (.feqS rd rs1 rs2) s
    (let r := fpCompare .single .eq (readFS s rs1) (readFS s rs2)
    .next (finishX rd (zext s.cfg (BitVec.ofBool r.1)) r.2 s))

/-- `feq.d` (R202). -/
def execFeqD (rd : XReg) (rs1 rs2 : FReg) (s : State) : Out :=
  fpFrame (.feqD rd rs1 rs2) s
    (let r := fpCompare .double .eq (readFD s rs1) (readFD s rs2)
    .next (finishX rd (zext s.cfg (BitVec.ofBool r.1)) r.2 s))

/-- `flt.s` (R203). -/
def execFltS (rd : XReg) (rs1 rs2 : FReg) (s : State) : Out :=
  fpFrame (.fltS rd rs1 rs2) s
    (let r := fpCompare .single .lt (readFS s rs1) (readFS s rs2)
    .next (finishX rd (zext s.cfg (BitVec.ofBool r.1)) r.2 s))

/-- `flt.d` (R204). -/
def execFltD (rd : XReg) (rs1 rs2 : FReg) (s : State) : Out :=
  fpFrame (.fltD rd rs1 rs2) s
    (let r := fpCompare .double .lt (readFD s rs1) (readFD s rs2)
    .next (finishX rd (zext s.cfg (BitVec.ofBool r.1)) r.2 s))

/-- `fle.s` (R205). -/
def execFleS (rd : XReg) (rs1 rs2 : FReg) (s : State) : Out :=
  fpFrame (.fleS rd rs1 rs2) s
    (let r := fpCompare .single .le (readFS s rs1) (readFS s rs2)
    .next (finishX rd (zext s.cfg (BitVec.ofBool r.1)) r.2 s))

/-- `fle.d` (R206). -/
def execFleD (rd : XReg) (rs1 rs2 : FReg) (s : State) : Out :=
  fpFrame (.fleD rd rs1 rs2) s
    (let r := fpCompare .double .le (readFD s rs1) (readFD s rs2)
    .next (finishX rd (zext s.cfg (BitVec.ofBool r.1)) r.2 s))

/-- `fclass.s` (R211). -/
def execFclassS (rd : XReg) (rs1 : FReg) (s : State) : Out :=
  fpFrame (.fclassS rd rs1) s (.next (finishX rd (zext s.cfg (fpClassify .single (readFS s rs1))) flagNone s))

/-- `fclass.d` (R212). -/
def execFclassD (rd : XReg) (rs1 : FReg) (s : State) : Out :=
  fpFrame (.fclassD rd rs1) s (.next (finishX rd (zext s.cfg (fpClassify .double (readFD s rs1))) flagNone s))

end Sys2Proof.Machine
end

