-- ==== Sys2Proof/Machine/FpConvert.lean ====
section
/-! DEFINITION. Floating-point conversions and moves between the register files (spec/43_fp_convert_move.md). -/

namespace Sys2Proof.Machine

/-- `fcvt.w.s` (R225). -/
def execFcvtWS (rd : XReg) (rs1 : FReg) (rm : BitVec 3) (s : State) : Out :=
  fpRounded (.fcvtWS rd rs1 rm) rm s fun mode =>
    deliverX rd ((numericsOf s.cfg).toInt .single mode (readFS s rs1) 32 true) s

/-- `fcvt.wu.s` (R226): the unsigned result is sign-extended too (R221). -/
def execFcvtWuS (rd : XReg) (rs1 : FReg) (rm : BitVec 3) (s : State) : Out :=
  fpRounded (.fcvtWuS rd rs1 rm) rm s fun mode =>
    deliverX rd ((numericsOf s.cfg).toInt .single mode (readFS s rs1) 32 false) s

/-- `fcvt.l.s` (R227). -/
def execFcvtLS (rd : XReg) (rs1 : FReg) (rm : BitVec 3) (s : State) : Out :=
  fpRounded (.fcvtLS rd rs1 rm) rm s fun mode =>
    deliverX rd ((numericsOf s.cfg).toInt .single mode (readFS s rs1) 64 true) s

/-- `fcvt.lu.s` (R228). -/
def execFcvtLuS (rd : XReg) (rs1 : FReg) (rm : BitVec 3) (s : State) : Out :=
  fpRounded (.fcvtLuS rd rs1 rm) rm s fun mode =>
    deliverX rd ((numericsOf s.cfg).toInt .single mode (readFS s rs1) 64 false) s

/-- `fcvt.w.d` (R229). -/
def execFcvtWD (rd : XReg) (rs1 : FReg) (rm : BitVec 3) (s : State) : Out :=
  fpRounded (.fcvtWD rd rs1 rm) rm s fun mode =>
    deliverX rd ((numericsOf s.cfg).toInt .double mode (readFD s rs1) 32 true) s

/-- `fcvt.wu.d` (R230): the unsigned result is sign-extended too (R221). -/
def execFcvtWuD (rd : XReg) (rs1 : FReg) (rm : BitVec 3) (s : State) : Out :=
  fpRounded (.fcvtWuD rd rs1 rm) rm s fun mode =>
    deliverX rd ((numericsOf s.cfg).toInt .double mode (readFD s rs1) 32 false) s

/-- `fcvt.l.d` (R231). -/
def execFcvtLD (rd : XReg) (rs1 : FReg) (rm : BitVec 3) (s : State) : Out :=
  fpRounded (.fcvtLD rd rs1 rm) rm s fun mode =>
    deliverX rd ((numericsOf s.cfg).toInt .double mode (readFD s rs1) 64 true) s

/-- `fcvt.lu.d` (R232). -/
def execFcvtLuD (rd : XReg) (rs1 : FReg) (rm : BitVec 3) (s : State) : Out :=
  fpRounded (.fcvtLuD rd rs1 rm) rm s fun mode =>
    deliverX rd ((numericsOf s.cfg).toInt .double mode (readFD s rs1) 64 false) s

/-- `fcvt.s.w` (R235). -/
def execFcvtSW (rd : FReg) (rs1 : XReg) (rm : BitVec 3) (s : State) : Out :=
  fpRounded (.fcvtSW rd rs1 rm) rm s fun mode =>
    deliverS rd ((numericsOf s.cfg).fromInt .single mode (readXLow s rs1).toInt) s

/-- `fcvt.s.wu` (R236). -/
def execFcvtSWu (rd : FReg) (rs1 : XReg) (rm : BitVec 3) (s : State) : Out :=
  fpRounded (.fcvtSWu rd rs1 rm) rm s fun mode =>
    deliverS rd ((numericsOf s.cfg).fromInt .single mode (readXLow s rs1).toNat) s

/-- `fcvt.s.l` (R237). -/
def execFcvtSL (rd : FReg) (rs1 : XReg) (rm : BitVec 3) (s : State) : Out :=
  fpRounded (.fcvtSL rd rs1 rm) rm s fun mode =>
    deliverS rd ((numericsOf s.cfg).fromInt .single mode (readX s rs1).toInt) s

/-- `fcvt.s.lu` (R238). -/
def execFcvtSLu (rd : FReg) (rs1 : XReg) (rm : BitVec 3) (s : State) : Out :=
  fpRounded (.fcvtSLu rd rs1 rm) rm s fun mode =>
    deliverS rd ((numericsOf s.cfg).fromInt .single mode (readX s rs1).toNat) s

/-- `fcvt.d.w` (R239). -/
def execFcvtDW (rd : FReg) (rs1 : XReg) (rm : BitVec 3) (s : State) : Out :=
  fpRounded (.fcvtDW rd rs1 rm) rm s fun mode =>
    deliverD rd ((numericsOf s.cfg).fromInt .double mode (readXLow s rs1).toInt) s

/-- `fcvt.d.wu` (R240). -/
def execFcvtDWu (rd : FReg) (rs1 : XReg) (rm : BitVec 3) (s : State) : Out :=
  fpRounded (.fcvtDWu rd rs1 rm) rm s fun mode =>
    deliverD rd ((numericsOf s.cfg).fromInt .double mode (readXLow s rs1).toNat) s

/-- `fcvt.d.l` (R241). -/
def execFcvtDL (rd : FReg) (rs1 : XReg) (rm : BitVec 3) (s : State) : Out :=
  fpRounded (.fcvtDL rd rs1 rm) rm s fun mode =>
    deliverD rd ((numericsOf s.cfg).fromInt .double mode (readX s rs1).toInt) s

/-- `fcvt.d.lu` (R242). -/
def execFcvtDLu (rd : FReg) (rs1 : XReg) (rm : BitVec 3) (s : State) : Out :=
  fpRounded (.fcvtDLu rd rs1 rm) rm s fun mode =>
    deliverD rd ((numericsOf s.cfg).fromInt .double mode (readX s rs1).toNat) s

/-- `fcvt.s.d` (R245). -/
def execFcvtSD (rd rs1 : FReg) (rm : BitVec 3) (s : State) : Out :=
  fpRounded (.fcvtSD rd rs1 rm) rm s fun mode =>
    deliverS rd ((numericsOf s.cfg).narrow mode (readFD s rs1)) s

/-- `fcvt.d.s` (R246): the rounding mode is checked and not used. -/
def execFcvtDS (rd rs1 : FReg) (rm : BitVec 3) (s : State) : Out :=
  fpRounded (.fcvtDS rd rs1 rm) rm s fun _ =>
    deliverD rd ((numericsOf s.cfg).widen (readFS s rs1)) s

/-- `fmv.x.w` (R250): the raw low half, sign-extended. -/
def execFmvXW (rd : XReg) (rs1 : FReg) (s : State) : Out :=
  fpFrame (.fmvXW rd rs1) s (deliverX rd (readFLow s rs1, flagNone) s)

/-- `fmv.w.x` (R251): boxed. -/
def execFmvWX (rd : FReg) (rs1 : XReg) (s : State) : Out :=
  fpFrame (.fmvWX rd rs1) s (deliverS rd (readXLow s rs1, flagNone) s)

/-- `fmv.x.d` (R252). -/
def execFmvXD (rd : XReg) (rs1 : FReg) (s : State) : Out :=
  fpFrame (.fmvXD rd rs1) s (deliverX rd (readFD s rs1, flagNone) s)

/-- `fmv.d.x` (R253). -/
def execFmvDX (rd : FReg) (rs1 : XReg) (s : State) : Out :=
  fpFrame (.fmvDX rd rs1) s (deliverD rd (readX s rs1, flagNone) s)

end Sys2Proof.Machine
end

