-- ==== Sys2Proof/Machine/FpMem.lean ====
section
/-! DEFINITION. Floating-point loads and stores (spec/45_fp_load_store.md). -/

namespace Sys2Proof.Machine

/-- `flw` (R271). -/
def execFlw (rd : FReg) (rs1 : XReg) (imm : BitVec 12) (s : State) : Out :=
  fpFrame (.flw rd rs1 imm) s
    (loadThen s false (effAddr s rs1 imm) 4 fun v => finishF rd (box s.cfg (v.setWidth 32)) flagNone s)

/-- `fld` (R272). -/
def execFld (rd : FReg) (rs1 : XReg) (imm : BitVec 12) (s : State) : Out :=
  fpFrame (.fld rd rs1 imm) s (loadThen s false (effAddr s rs1 imm) 8 fun v => finishF rd v flagNone s)

/-- `fsw` (R273): the raw low half, no unbox check (R151). -/
def execFsw (rs2 : FReg) (rs1 : XReg) (imm : BitVec 12) (s : State) : Out :=
  fpFrame (.fsw rs2 rs1 imm) s
    (storeThen s (effAddr s rs1 imm) ((readFLow s rs2).setWidth 64) 4 fun t => advance (settleFs t))

/-- `fsd` (R274). -/
def execFsd (rs2 : FReg) (rs1 : XReg) (imm : BitVec 12) (s : State) : Out :=
  fpFrame (.fsd rs2 rs1 imm) s (storeThen s (effAddr s rs1 imm) (readFD s rs2) 8 fun t => advance (settleFs t))

end Sys2Proof.Machine
end

