-- ==== Sys2Proof/Machine/FpSign.lean ====
section
/-! DEFINITION. Sign injection (spec/46_fp_sign_inject.md). -/

namespace Sys2Proof.Machine

/-- `fsgnj.s` (R281). -/
def execFsgnjS (rd rs1 rs2 : FReg) (s : State) : Out :=
  fpFrame (.fsgnjS rd rs1 rs2) s (deliverS rd (fpWithSign .single (readFS s rs2).msb (readFS s rs1), flagNone) s)

/-- `fsgnj.d` (R282). -/
def execFsgnjD (rd rs1 rs2 : FReg) (s : State) : Out :=
  fpFrame (.fsgnjD rd rs1 rs2) s (deliverD rd (fpWithSign .double (readFD s rs2).msb (readFD s rs1), flagNone) s)

/-- `fsgnjn.s` (R283). -/
def execFsgnjnS (rd rs1 rs2 : FReg) (s : State) : Out :=
  fpFrame (.fsgnjnS rd rs1 rs2) s (deliverS rd (fpWithSign .single (!(readFS s rs2).msb) (readFS s rs1), flagNone) s)

/-- `fsgnjn.d` (R284). -/
def execFsgnjnD (rd rs1 rs2 : FReg) (s : State) : Out :=
  fpFrame (.fsgnjnD rd rs1 rs2) s (deliverD rd (fpWithSign .double (!(readFD s rs2).msb) (readFD s rs1), flagNone) s)

/-- `fsgnjx.s` (R285). -/
def execFsgnjxS (rd rs1 rs2 : FReg) (s : State) : Out :=
  fpFrame (.fsgnjxS rd rs1 rs2) s
    (deliverS rd (fpWithSign .single ((readFS s rs1).msb ^^ (readFS s rs2).msb) (readFS s rs1), flagNone) s)

/-- `fsgnjx.d` (R286). -/
def execFsgnjxD (rd rs1 rs2 : FReg) (s : State) : Out :=
  fpFrame (.fsgnjxD rd rs1 rs2) s
    (deliverD rd (fpWithSign .double ((readFD s rs1).msb ^^ (readFD s rs2).msb) (readFD s rs1), flagNone) s)

end Sys2Proof.Machine
end

