-- ==== Sys2Proof/Machine/Jump.lean ====
section
/-! DEFINITION. Jumps (spec/48_jumps.md). There is no delay slot (R323, R410). -/

namespace Sys2Proof.Machine

/-- The common part of the two jumps (R320, R321, R322): a misaligned target raises the exception on the jump, with the
target as trap value; else the link `pc + 4` is written and `pc` set. -/
def jumpAndLink (rd : XReg) (target : Word) (s : State) : Out :=
  if pcAligned s.cfg target then .next (jumpTo target (writeX rd (nextPc s) s))
  else raise .instructionAddressMisaligned target s

/-- `jal` (R320). -/
def execJal (rd : XReg) (off : BitVec 20) (s : State) : Out :=
  jumpAndLink rd (jalTarget s off) s

/-- `jalr` (R321). -/
def execJalr (rd rs1 : XReg) (imm : BitVec 12) (s : State) : Out :=
  jumpAndLink rd (jalrTarget s rs1 imm) s

end Sys2Proof.Machine
end

