-- ==== Sys2Proof/Machine/Loads.lean ====
section
/-! DEFINITION. Integer loads, `lui` and load-reserved (spec/49_loads_lui_lr_mret.md). None is gated by `FS`. -/

namespace Sys2Proof.Machine

/-- `reservation <- (a, n)` (R45, R343): a new reservation replaces the old one. -/
def reserve (a : Word) (n : Nat) (s : State) : State := { s with reservation := some { addr := a, size := n } }

/-- `lb` (R331). -/
def execLb (rd rs1 : XReg) (imm : BitVec 12) (s : State) : Out :=
  loadThen s false (effAddr s rs1 imm) 1 fun v => finishInt rd (sext s.cfg (v.setWidth 8)) s

/-- `lbu` (R332). -/
def execLbu (rd rs1 : XReg) (imm : BitVec 12) (s : State) : Out :=
  loadThen s false (effAddr s rs1 imm) 1 fun v => finishInt rd (zext s.cfg (v.setWidth 8)) s

/-- `lh` (R333). -/
def execLh (rd rs1 : XReg) (imm : BitVec 12) (s : State) : Out :=
  loadThen s false (effAddr s rs1 imm) 2 fun v => finishInt rd (sext s.cfg (v.setWidth 16)) s

/-- `lhu` (R334). -/
def execLhu (rd rs1 : XReg) (imm : BitVec 12) (s : State) : Out :=
  loadThen s false (effAddr s rs1 imm) 2 fun v => finishInt rd (zext s.cfg (v.setWidth 16)) s

/-- `lw` (R335): sign-extended. -/
def execLw (rd rs1 : XReg) (imm : BitVec 12) (s : State) : Out :=
  loadThen s false (effAddr s rs1 imm) 4 fun v => finishInt rd (sext s.cfg (v.setWidth 32)) s

/-- `lwu` (R336): zero-extended, RV64 only. -/
def execLwu (rd rs1 : XReg) (imm : BitVec 12) (s : State) : Out :=
  present (.lwu rd rs1 imm) s
    (loadThen s false (effAddr s rs1 imm) 4 fun v =>
    finishInt rd (zext s.cfg (v.setWidth 32)) s)

/-- `ld` (R337): RV64 only. -/
def execLd (rd rs1 : XReg) (imm : BitVec 12) (s : State) : Out :=
  present (.ld rd rs1 imm) s
    (loadThen s false (effAddr s rs1 imm) 8 fun v =>
    finishInt rd (sext s.cfg (v.setWidth 64)) s)

/-- `lui` (R340). -/
def execLui (rd : XReg) (imm : BitVec 20) (s : State) : Out :=
  .next (finishInt rd (luiValue s.cfg imm) s)

/-- `lr.w` (R341), R343: `aq` and `rl` change nothing (R78). -/
def execLrW (rd rs1 : XReg) (aq rl : Bool) (s : State) : Out :=
  present (.lrW rd rs1 aq rl) s (loadThen s true (readX s rs1) 4 fun v =>
    finishInt rd (sext s.cfg (v.setWidth 32)) (reserve (readX s rs1) 4 s))

/-- `lr.d` (R342), R343: `aq` and `rl` change nothing (R78). -/
def execLrD (rd rs1 : XReg) (aq rl : Bool) (s : State) : Out :=
  present (.lrD rd rs1 aq rl) s (loadThen s true (readX s rs1) 8 fun v =>
    finishInt rd (sext s.cfg (v.setWidth 64)) (reserve (readX s rs1) 8 s))

end Sys2Proof.Machine
end

