-- ==== Sys2Proof/Machine/System.lean ====
section
/-! DEFINITION. Return from a trap (spec/49_loads_lui_lr_mret.md, section 4). -/

namespace Sys2Proof.Machine

/-- `mret` (R345): legal in machine mode only (R386). -/
def execMret (s : State) : Out :=
  if s.priv = .machine then .next (trapReturn s) else illegal .mret s

end Sys2Proof.Machine
end

