-- ==== Sys2Proof/Machine/Fetch.lean ====
section
/-! DEFINITION. Fetching an instruction word (R64, R68, R69), and placing one where the next step fetches it. -/

namespace Sys2Proof.Machine

/-- What a fetch finds. -/
inductive Fetched where
  /-- An instruction word. -/
  | word (w : Insn)
  /-- Some byte is in no executable region (R68). -/
  | accessFault
  /-- Every byte is executable, some byte is not in `CODE`, from which alone fetch reads (R69, D20). -/
  | outsideCode
  /-- A byte of `CODE` that has no value. -/
  | unwritten (addr : Nat)
  deriving DecidableEq, Repr

/-- `Fetch(pc)`: four bytes of `CODE`, little-endian (R61, R68, R69). -/
def fetch (s : State) : Fetched :=
  if !allBytes s.cfg (executableAt s.cfg) (readPc s) 4 then .accessFault
  else if !allBytes s.cfg (codeAt s.cfg) (readPc s) 4 then .outsideCode
  else match readBytes s.cfg s.mem (readPc s) 4 with
    | .error p => .unwritten p
    | .ok v => .word (v.setWidth 32)

/-- The configuration in which the byte at address `n` is executable and in `CODE`, with nothing else changed. -/
def admitCodeByte (n : Nat) (c : Config) : Config :=
  { c with
    memMap := if executableAt c n then c.memMap else c.memMap ++ [⟨n, 1, false, false, true⟩]
    code := if codeAt c n then c.code else c.code ++ [⟨n, 1⟩] }

/-- The configuration in which the `n` bytes at `a` are executable and in `CODE`. -/
def admitCode (a : Word) : Nat → Config → Config
  | 0, c => c
  | k + 1, c => admitCodeByte (byteAddr c a k) (admitCode a k c)

/-- The state with the word `w` loaded at `pc` as program text: its four bytes in memory, in `CODE` and executable, and
no `HALT` at `pc`. It stands for the load of a program from outside (R402; notes/assumptions/5.md). -/
def placeWord (w : Insn) (s : State) : State :=
  let c := admitCode (readPc s) 4 s.cfg
  { s with
    cfg := if c.halt = some (readPc s) then { c with halt := none } else c
    mem := writeBytes s.cfg (fun _ => true) (readPc s) (w.setWidth 64) 4 s.mem }

end Sys2Proof.Machine
end

