-- ==== Sys2Proof/Machine/Run.lean ====
section
/-! DEFINITION. What one step of the hart does (R20): the body of `step`. -/

namespace Sys2Proof.Machine

/-- What the machine does with a fetched word (R20, R109, R110, R116). -/
def runWord (w : Insn) (s : State) : Out :=
  match decodeWord w with
  | .instr i => exec i s
  | .illegal => illegalWord w s
  | .notThirtyTwoBit => .refused (.notThirtyTwoBit w)
  | .truncated => .refused (.notThirtyTwoBit w)
  | .noEntry => .refused (.noEntry w)

/-- Whether `pc` is the `HALT` address, at which a run ends before the instruction there is fetched (R420). -/
def atHalt (s : State) : Bool := s.cfg.halt == some (readPc s)

/-- One step of the hart (R20): the end of the run at `HALT` (R420), else the word at `pc` is fetched, decoded and
performed, or an exception is raised. -/
def stepHart (s : State) : Out :=
  if atHalt s then .fault (.halted (readPc s))
  else match fetch s with
    | .word w => runWord w s
    | .accessFault => raise .instructionAccessFault (readPc s) s
    | .outsideCode => .refused (.fetchOutsideCode (readPc s))
    | .unwritten p => .fault (.unwrittenByte p)

end Sys2Proof.Machine
end

