-- ==== Sys2Proof/Machine/Step.lean ====
section
/-! DEFINITION. One step of the machine, and the host's placing of a word to fetch. -/

namespace Sys2Proof.Machine

/-- One step (R20): `stepHart`. -/
def step (s : State) : Host.Outcome State Fault Refusal := stepHart s

/-- The state with the instruction whose low `nbits` bits are those of `w`, and whose other bits are zero, loaded where
the next step fetches (`placeWord`; notes/assumptions/5.md). -/
def State.withFetchWord (s : State) (nbits w : Nat) : State := placeWord (BitVec.ofNat 32 (w % 2 ^ nbits)) s

end Sys2Proof.Machine
end

