-- ==== Sys2Proof/Machine/Pseudo.lean ====
section
/-! DEFINITION. The pseudo-instructions of the spec (R122) as the instructions they expand to, and the defaults for
omitted operands (R120). A pseudo-instruction has no encoding and no meaning of its own. `la`, `lla` and the general
`li` expand to instructions that the spec leaves out (R6, R346 to R349). -/

namespace Sys2Proof.Machine

/-- `fmv.s rd, rs1` (R292). -/
def pseudoFmvS (rd rs1 : FReg) : Instr := .fsgnjS rd rs1 rs1
/-- `fmv.d rd, rs1` (R293). -/
def pseudoFmvD (rd rs1 : FReg) : Instr := .fsgnjD rd rs1 rs1
/-- `fneg.s rd, rs1` (R294). -/
def pseudoFnegS (rd rs1 : FReg) : Instr := .fsgnjnS rd rs1 rs1
/-- `fneg.d rd, rs1` (R295). -/
def pseudoFnegD (rd rs1 : FReg) : Instr := .fsgnjnD rd rs1 rs1
/-- `frcsr rd` (R304). -/
def pseudoFrcsr (rd : XReg) : Instr := .csrrs rd 0 0x003
/-- `frflags rd` (R305). -/
def pseudoFrflags (rd : XReg) : Instr := .csrrs rd 0 0x001
/-- `frrm rd` (R306). -/
def pseudoFrrm (rd : XReg) : Instr := .csrrs rd 0 0x002
/-- `fscsr rd, rs1` (R307). -/
def pseudoFscsr (rd rs1 : XReg) : Instr := .csrrw rd rs1 0x003
/-- `fsflags rd, rs1` (R308). -/
def pseudoFsflags (rd rs1 : XReg) : Instr := .csrrw rd rs1 0x001
/-- `fsrm rd, rs1` (R309). -/
def pseudoFsrm (rd rs1 : XReg) : Instr := .csrrw rd rs1 0x002
/-- `j offset` (R324). -/
def pseudoJ (off : BitVec 20) : Instr := .jal 0 off
/-- `jr rs1` (R325). -/
def pseudoJr (rs1 : XReg) : Instr := .jalr 0 rs1 0
/-- `li rd, v` in the one case in scope: the low 12 bits of `v` are zero and `v` is the sign extension of its low 32
bits (R348). -/
def pseudoLi (c : Config) (rd : XReg) (v : Word) : Option Instr :=
  if v.extractLsb' 0 12 = 0 ∧ sext c (v.setWidth 32) = v then some (.lui rd (v.extractLsb' 12 20)) else none

/-- `jal offset` with `rd` omitted (R120, R320). -/
def defaultJal (off : BitVec 20) : Instr := .jal 1 off
/-- `jalr offset(rs1)` with `rd` omitted (R120, R321). -/
def defaultJalr (rs1 : XReg) (imm : BitVec 12) : Instr := .jalr 1 rs1 imm
/-- `fscsr rs1` with `rd` omitted (R120, R307). -/
def defaultFscsr (rs1 : XReg) : Instr := pseudoFscsr 0 rs1
/-- `fsflags rs1` with `rd` omitted (R120, R308). -/
def defaultFsflags (rs1 : XReg) : Instr := pseudoFsflags 0 rs1
/-- `fsrm rs1` with `rd` omitted (R120, R309). -/
def defaultFsrm (rs1 : XReg) : Instr := pseudoFsrm 0 rs1
/-- `fence` with no operands: `fence iorw, iorw` (R120, R260). -/
def defaultFence : Instr := .fence 0 0b1111 0b1111 0 0

end Sys2Proof.Machine
end

