-- ==== Sys2Proof/Safety.lean ====
section
/-! DEFINITION. The terms in which statements speak of the machine: what an instruction changed and what it left
alone, what a legal state is, the value of a pattern as a rational, and the exact result of an operation. -/

namespace Sys2Proof.Machine

/-! ### What two states have in common -/

/-- No integer register reads differently. -/
def SameX (s t : State) : Prop := ∀ i : XReg, readX t i = readX s i

/-- No floating-point register reads differently. -/
def SameF (s t : State) : Prop := ∀ i : FReg, readF t i = readF s i

/-- Every byte of memory reads as before. -/
def SameMem (s t : State) : Prop := ∀ n : Nat, memByte t.mem n = memByte s.mem n

/-- Every byte of memory outside the `n` bytes at `a` reads as before. -/
def SameMemBut (a : Word) (n : Nat) (s t : State) : Prop :=
  ∀ p : Nat, (∀ k < n, p ≠ byteAddr s.cfg a k) → memByte t.mem p = memByte s.mem p

/-- The configuration, the mode and the exception registers, which only a trap, `mret` and the CSR instructions
write (R345, R372, R303). -/
structure SameTrapState (s t : State) : Prop where
  cfg : t.cfg = s.cfg
  priv : t.priv = s.priv
  mepc : t.mepc = s.mepc
  mcause : t.mcause = s.mcause
  mtval : t.mtval = s.mtval
  mtvec : t.mtvec = s.mtvec

/-- The fields of `mstatus` but `FS`. -/
structure SameMstatusButFs (s t : State) : Prop where
  mie : t.mstatus.mie = s.mstatus.mie
  mpie : t.mstatus.mpie = s.mstatus.mpie
  mpp : t.mstatus.mpp = s.mstatus.mpp

/-- `x[rd]` reads as `v`, unless it is `x[0]`, which stays 0 (R21); every other integer register is unchanged. -/
def WroteXReg (rd : XReg) (v : Word) (s t : State) : Prop :=
  ∀ i : XReg, readX t i = if i = rd ∧ rd ≠ 0 then v else readX s i

/-- `f[rd]` reads as `v`, and every other floating-point register is unchanged (R27). -/
def WroteFReg (rd : FReg) (v : Word) (s t : State) : Prop :=
  ∀ i : FReg, readF t i = if i = rd then v else readF s i

/-- The flags `fl` were or-ed into `fflags` and `frm` is unchanged (R140). -/
def Accrued (fl : FFlags) (s t : State) : Prop :=
  fcsrFlags t.fcsr = fcsrFlags s.fcsr ||| fl ∧ fcsrFrm t.fcsr = fcsrFrm s.fcsr

/-- `FS` after a floating-point instruction that wrote no `f` register (R37): 3 where a bit of `fcsr` changed, else
unchanged or 3. -/
def FsSettled (s t : State) : Prop :=
  (t.fcsr ≠ s.fcsr → t.mstatus.fs = 3) ∧ (t.fcsr = s.fcsr → t.mstatus.fs = s.mstatus.fs ∨ t.mstatus.fs = 3)

/-! ### What the instructions of one shape do -/

/-- From `s` to `t`, an instruction wrote `v` to `f[rd]` and accrued `fl`: everything it changed and everything it left
alone (R37, R155). -/
structure WroteF (rd : FReg) (v : Word) (fl : FFlags) (s t : State) : Prop where
  f : WroteFReg rd v s t
  x : SameX s t
  flags : Accrued fl s t
  fs : t.mstatus.fs = 3
  mstatus : SameMstatusButFs s t
  trap : SameTrapState s t
  reservation : t.reservation = s.reservation
  mem : SameMem s t
  pc : readPc t = nextPc s

/-- From `s` to `t`, a floating-point instruction wrote `v` to `x[rd]` and accrued `fl` (R37, R155). -/
structure WroteX (rd : XReg) (v : Word) (fl : FFlags) (s t : State) : Prop where
  x : WroteXReg rd v s t
  f : SameF s t
  flags : Accrued fl s t
  fs : FsSettled s t
  mstatus : SameMstatusButFs s t
  trap : SameTrapState s t
  reservation : t.reservation = s.reservation
  mem : SameMem s t
  pc : readPc t = nextPc s

/-- From `s` to `t`, an integer instruction wrote `v` to `x[rd]`, left the reservation `r` and went on at `pc`. -/
structure WroteInt (rd : XReg) (v : Word) (r : Option Reservation) (pc : Word) (s t : State) : Prop where
  x : WroteXReg rd v s t
  f : SameF s t
  fcsr : t.fcsr = s.fcsr
  mstatus : t.mstatus = s.mstatus
  trap : SameTrapState s t
  reservation : t.reservation = r
  mem : SameMem s t
  pc : readPc t = pc

/-- From `s` to `t`, a store wrote the low `n` bytes of `v` at `a`, little-endian (R61), and nothing else but `FS`
(R37). -/
structure Stored (a v : Word) (n : Nat) (s t : State) : Prop where
  bytes : ∀ k < n, memByte t.mem (byteAddr s.cfg a k) = some (byteOf v k)
  others : SameMemBut a n s t
  x : SameX s t
  f : SameF s t
  fcsr : t.fcsr = s.fcsr
  fs : FsSettled s t
  mstatus : SameMstatusButFs s t
  trap : SameTrapState s t
  reservation : t.reservation = s.reservation
  pc : readPc t = nextPc s

/-- `t` is `s` after the entry of the exception `e` with trap value `tv` (R372): the five writes, the mode and `pc`, and
nothing else but what `mem` says of the memory. -/
structure Trapped (e : Exc) (tv : Word) (s t : State) : Prop where
  mepc : readMepc t = fit s.cfg (pcMask s.cfg s.pc)
  mcause : t.mcause = excCode e
  mtval : t.mtval = fit s.cfg tv
  mpie : t.mstatus.mpie = s.mstatus.mie
  mie : t.mstatus.mie = false
  mpp : t.mstatus.mpp = s.priv
  priv : t.priv = .machine
  pc : readPc t = fit s.cfg (s.mtvec &&& ~~~ 3)
  x : SameX s t
  f : SameF s t
  fcsr : t.fcsr = s.fcsr
  fs : t.mstatus.fs = s.mstatus.fs
  mtvec : t.mtvec = s.mtvec
  reservation : t.reservation = s.reservation
  cfg : t.cfg = s.cfg

/-! ### The control and status registers (R30 to R39, R303) -/

/-- The number and the register of the eight CSRs (R30, R31, R32, R35, R38, R39, R103). -/
def csrNumbers : List (BitVec 12 × Csr) :=
  [(0x001, .fflags), (0x002, .frm), (0x003, .fcsr), (0x300, .mstatus), (0x305, .mtvec), (0x341, .mepc),
    (0x342, .mcause), (0x343, .mtval)]

/-- The three registers that `FS` gates (R34). -/
def FpCsr (r : Csr) : Prop := r = .fflags ∨ r = .frm ∨ r = .fcsr

/-- A CSR instruction on the register `r` of number `n` passes the checks of R303: the three floating-point registers may
be accessed from every mode (R42) with `FS` not 0 (R34), the others from machine mode. -/
def CsrAllowed (s : State) (n : BitVec 12) (r : Csr) : Prop :=
  (n, r) ∈ csrNumbers ∧ (n = 0x001 ∨ n = 0x002 ∨ n = 0x003 ∨ s.priv = .machine) ∧ (FpCsr r → s.mstatus.fs ≠ 0)

/-- The bits of `mstatus` (R35): `MIE` 3, `MPIE` 7, `MPP` 12:11, `FS` 14:13, and at bit XLEN-1 `SD`, which is 1 exactly when
`FS` is 3; on RV64 also `UXL`, which reads 2 with user mode, at bits 33:32 (PRESUMED, log 19). Every other bit is 0. -/
def MstatusReads (s : State) (v : Word) : Prop :=
  v.getLsbD 3 = s.mstatus.mie ∧ v.getLsbD 7 = s.mstatus.mpie ∧
  v.extractLsb' 11 2 = (if s.mstatus.mpp = .machine then 3#2 else 0#2) ∧ v.extractLsb' 13 2 = s.mstatus.fs ∧
  match s.cfg.xlen with
  | .rv32 => v.getLsbD 31 = (s.mstatus.fs == 3#2) ∧ ∀ k, k ∉ [3, 7, 11, 12, 13, 14, 31] → v.getLsbD k = false
  | .rv64 => v.getLsbD 63 = (s.mstatus.fs == 3#2) ∧ v.extractLsb' 32 2 = (if s.cfg.hasU then 2#2 else 0#2) ∧
    ∀ k, k ∉ [3, 7, 11, 12, 13, 14, 32, 33, 63] → v.getLsbD k = false

/-- The read column of the table of R303: what `csr_read` of the register gives, zero-extended. -/
def CsrReads (s : State) (v : Word) : Csr → Prop
  | .fflags => v = (s.fcsr.extractLsb' 0 5).setWidth 64
  | .frm => v = (s.fcsr.extractLsb' 5 3).setWidth 64
  | .fcsr => v = s.fcsr.setWidth 64
  | .mstatus => MstatusReads s v
  | .mtvec => v = fit s.cfg s.mtvec
  | .mepc => v = fit s.cfg (s.mepc &&& ~~~ (if s.cfg.ialign = .i32 then 3 else 1))
  | .mcause => v = fit s.cfg s.mcause
  | .mtval => v = fit s.cfg s.mtval

/-- The write column of the table of R303, with R34, R35, R38, R39: the state after the write of `v` to the register `r`.
Nothing else changes but `x[rd]` and `pc`. -/
def CsrWritten (r : Csr) (v : Word) (s t : State) : Prop :=
  t.cfg = s.cfg ∧ t.priv = s.priv ∧ t.reservation = s.reservation ∧ SameF s t ∧ SameMem s t ∧
  (r ≠ .mepc → t.mepc = s.mepc) ∧ (r ≠ .mcause → t.mcause = s.mcause) ∧ (r ≠ .mtval → t.mtval = s.mtval) ∧
  (r ≠ .mtvec → t.mtvec = s.mtvec) ∧ (¬ FpCsr r → t.fcsr = s.fcsr) ∧
  (r ≠ .mstatus → SameMstatusButFs s t) ∧ (FpCsr r → t.mstatus.fs = 3) ∧
  (r ≠ .mstatus → ¬ FpCsr r → t.mstatus.fs = s.mstatus.fs) ∧
  match r with
  | .fflags => fcsrFlags t.fcsr = v.extractLsb' 0 5 ∧ fcsrFrm t.fcsr = fcsrFrm s.fcsr
  | .frm => fcsrFrm t.fcsr = v.extractLsb' 0 3 ∧ fcsrFlags t.fcsr = fcsrFlags s.fcsr
  | .fcsr => t.fcsr = v.extractLsb' 0 8
  | .mstatus =>
    t.mstatus.mie = v.getLsbD 3 ∧ t.mstatus.mpie = v.getLsbD 7 ∧ t.mstatus.fs = v.extractLsb' 13 2 ∧
      (v.extractLsb' 11 2 = 3#2 → t.mstatus.mpp = .machine) ∧
      (v.extractLsb' 11 2 = 0#2 → s.cfg.hasU = true → t.mstatus.mpp = .user) ∧
      (s.cfg.hasU = false → t.mstatus.mpp = .machine)
  | .mtvec =>
    t.mtvec.extractLsb' 2 62 = v.extractLsb' 2 62 ∧
      t.mtvec.extractLsb' 0 2 = if v.getLsbD 1 then s.mtvec.extractLsb' 0 2 else v.extractLsb' 0 2
  | .mepc => t.mepc = v &&& ~~~ (if s.cfg.ialign = .i32 then 3 else 1)
  | .mcause => t.mcause = v
  | .mtval => t.mtval = v

/-- Nothing but `x[rd]` and `pc` changed, except that `FS` may have become 3 when `fp` (R37, R301; the draw of log
12). -/
def CsrUntouched (fp : Prop) (s t : State) : Prop :=
  SameTrapState s t ∧ t.reservation = s.reservation ∧ SameF s t ∧ SameMem s t ∧ t.fcsr = s.fcsr ∧
  SameMstatusButFs s t ∧ (t.mstatus.fs = s.mstatus.fs ∨ (fp ∧ t.mstatus.fs = 3))

/-! ### When the instructions complete -/

/-- `exec i s` gives a state in which the single-precision result `r.1` stands boxed in `f[rd]` and `r.2` is accrued. -/
def CompletesFS (i : Instr) (rd : FReg) (r : BitVec 32 × FFlags) (s : State) : Prop :=
  ∃ t, exec i s = .next t ∧ WroteF rd (box s.cfg r.1) r.2 s t

/-- `exec i s` gives a state in which the double-precision result `r.1` stands in `f[rd]` and `r.2` is accrued. -/
def CompletesFD (i : Instr) (rd : FReg) (r : BitVec 64 × FFlags) (s : State) : Prop :=
  ∃ t, exec i s = .next t ∧ WroteF rd r.1 r.2 s t

/-- `exec i s` gives a state in which `v` stands in `x[rd]` and the flags `fl` are accrued. -/
def CompletesX (i : Instr) (rd : XReg) (v : Word) (fl : FFlags) (s : State) : Prop :=
  ∃ t, exec i s = .next t ∧ WroteX rd v fl s t

/-- `exec i s` gives a state in which `v` stands in `x[rd]`, the reservation is `r`, and no floating-point state has
changed. -/
def CompletesInt (i : Instr) (rd : XReg) (v : Word) (r : Option Reservation) (s : State) : Prop :=
  ∃ t, exec i s = .next t ∧ WroteInt rd v r (nextPc s) s t

/-- An access of `n` bytes at `a` may be made: it is aligned, or `MISALIGNED` is `split` (R62). -/
def AccessAligned (s : State) (a : Word) (n : Nat) : Prop := a.toNat % n = 0 ∨ s.cfg.misaligned = .split

/-- The `n` bytes at `a` are readable and are the low `n` bytes of `v`, little-endian (R61, R68). -/
def Loads (s : State) (a : Word) (n : Nat) (v : Word) : Prop :=
  ∀ k < n, readableAt s.cfg (byteAddr s.cfg a k) = true ∧ memByte s.mem (byteAddr s.cfg a k) = some (byteOf v k)

/-- The `n` bytes at `a` may be stored to: writable, and no byte of `CODE` (R68). -/
def Storable (s : State) (a : Word) (n : Nat) : Prop :=
  ∀ k < n, writableAt s.cfg (byteAddr s.cfg a k) = true ∧ codeAt s.cfg (byteAddr s.cfg a k) = false

/-! ### Legal states -/

/-- The invariant of the machine: every register holds a value of its width (R21, R24, R27, R38, R39), `pc` and `mepc`
are aligned (R26, R38, R64), the mode bits of `mtvec` and the modes are legal (R35, R36, R39), a reservation is of 4 or
8 aligned bytes (R45, R63), and the memory has its canonical form. -/
structure Inv (s : State) : Prop where
  cfg : s.cfg.wellFormed = true
  mem : Memory.wf s.cfg s.mem = true
  x : ∀ i (h : i < 32), fit s.cfg s.x[i] = s.x[i]
  f : ∀ i (h : i < 32), fitF s.cfg s.f[i] = s.f[i]
  pc : fit s.cfg s.pc = s.pc ∧ pcAligned s.cfg s.pc = true
  mepc : fit s.cfg s.mepc = s.mepc ∧ pcAligned s.cfg s.mepc = true
  mcause : fit s.cfg s.mcause = s.mcause
  mtval : fit s.cfg s.mtval = s.mtval
  mtvec : fit s.cfg s.mtvec = s.mtvec ∧ s.mtvec.getLsbD 1 = false
  modes : s.cfg.hasU = false → s.priv = .machine ∧ s.mstatus.mpp = .machine
  reservation : ∀ r, s.reservation = some r →
    (r.size = 4 ∨ r.size = 8) ∧ r.addr.toNat % r.size = 0 ∧ fit s.cfg r.addr = r.addr

/-! ### The values of patterns (R132, R148) -/

/-- The rational value of a finite value; 0 for the others. -/
def Val.toRat : Val → ℚ
  | .fin neg mant exp => (if neg then -1 else 1) * mant * 2 ^ exp
  | .inf _ => 0
  | .nan _ => 0

/-- Whether a value is finite. -/
def Val.isFinite : Val → Bool
  | .fin _ _ _ => true
  | .inf _ => false
  | .nan _ => false

/-- Whether the exact real is below a rational. -/
def Mag.Below : Mag → ℚ → Prop
  | .ratio n d, q => (n : ℚ) / d < q
  | .root n d, q => 0 ≤ q ∧ (n : ℚ) / d < q ^ 2

/-- Whether the exact real is above a rational. -/
def Mag.Above : Mag → ℚ → Prop
  | .ratio n d, q => q < (n : ℚ) / d
  | .root n d, q => q < 0 ∨ q ^ 2 < (n : ℚ) / d

/-- The denominator is not zero, so that the exact real is a number. -/
def Mag.Proper : Mag → Prop
  | .ratio _ d => 0 < d
  | .root _ d => 0 < d

/-- `i` is the integer to which a rounding mode takes the rational `q` (R32, R139): the nearest, the even one of two that
are equally near; the nearest towards zero; the floor; the ceiling; the nearest, the larger magnitude of two. -/
def RoundsTo : RoundingMode → ℚ → Int → Prop
  | .rne, q, i => |q - i| ≤ 1 / 2 ∧ (|q - i| = 1 / 2 → i % 2 = 0)
  | .rtz, q, i => if 0 ≤ q then i = ⌊q⌋ else i = ⌈q⌉
  | .rdn, q, i => i = ⌊q⌋
  | .rup, q, i => i = ⌈q⌉
  | .rmm, q, i => if 0 ≤ q then i = ⌊q + 1 / 2⌋ else i = ⌈q - 1 / 2⌉

/-- Which flags a floating-point operation may give together (R143): OF and UF come with NX, and NV and DZ come with
none of the three. -/
def FlagsTogether (fl : FFlags) : Prop :=
  (fl.getLsbD 2 = true → fl.getLsbD 0 = true) ∧ (fl.getLsbD 1 = true → fl.getLsbD 0 = true) ∧
  (fl.getLsbD 4 = true ∨ fl.getLsbD 3 = true → fl.getLsbD 2 = false ∧ fl.getLsbD 1 = false ∧ fl.getLsbD 0 = false)

/-! ### Patterns and exact results (R132, R133, R137, R138, R146, R147) -/

/-- The pattern with only the sign bit set, as a factor that flips a sign (R146). -/
def signBit : (F : Fmt) → BitVec F.width
  | .single => 0x80000000
  | .double => 0x8000000000000000

/-- The zero of a sign, true for minus (R132). -/
def zeroBits : (F : Fmt) → Bool → BitVec F.width
  | .single, neg => if neg then 0x80000000 else 0x00000000
  | .double, neg => if neg then 0x8000000000000000 else 0x0000000000000000

/-- The infinity of a sign, true for minus (R132). -/
def infBits : (F : Fmt) → Bool → BitVec F.width
  | .single, neg => if neg then 0xff800000 else 0x7f800000
  | .double, neg => if neg then 0xfff0000000000000 else 0x7ff0000000000000

/-- The largest finite number of a sign, true for minus (R132). -/
def largestBits : (F : Fmt) → Bool → BitVec F.width
  | .single, neg => if neg then 0xff7fffff else 0x7f7fffff
  | .double, neg => if neg then 0xffefffffffffffff else 0x7fefffffffffffff

/-- The canonical NaN (R133). -/
def nanBits : (F : Fmt) → BitVec F.width
  | .single => 0x7fc00000
  | .double => 0x7ff8000000000000

/-- The pattern `a` is finite and its value is `v`. -/
def HasValue (F : Fmt) (a : BitVec F.width) (v : ℝ) : Prop :=
  (fpVal F a).isFinite = true ∧ ((fpVal F a).toRat : ℝ) = v

/-- `op`, a function of the rounding mode, is an operation of the IEEE instance on finite operands, and `q` its exact
result before the one rounding: a sum, difference, product, quotient or root (R146), `a × b + c` (R147), an integer (R222),
or a value of the other format (R245, R246). -/
inductive ExactResult : (F : Fmt) → (RoundingMode → BitVec F.width × FFlags) → ℝ → Prop
  | add {F : Fmt} {a b : BitVec F.width} {u v : ℝ} (ha : HasValue F a u) (hb : HasValue F b v) :
    ExactResult F (fun mode => ieee754.add F mode a b) (u + v)
  | sub {F : Fmt} {a b : BitVec F.width} {u v : ℝ} (ha : HasValue F a u) (hb : HasValue F b v) :
    ExactResult F (fun mode => ieee754.sub F mode a b) (u - v)
  | mul {F : Fmt} {a b : BitVec F.width} {u v : ℝ} (ha : HasValue F a u) (hb : HasValue F b v) :
    ExactResult F (fun mode => ieee754.mul F mode a b) (u * v)
  | div {F : Fmt} {a b : BitVec F.width} {u v : ℝ} (ha : HasValue F a u) (hb : HasValue F b v) (hv : v ≠ 0) :
    ExactResult F (fun mode => ieee754.div F mode a b) (u / v)
  | sqrt {F : Fmt} {a : BitVec F.width} {u : ℝ} (ha : HasValue F a u) (hu : 0 ≤ u) :
    ExactResult F (fun mode => ieee754.sqrt F mode a) (Real.sqrt u)
  | fma {F : Fmt} {a b c : BitVec F.width} {u v w : ℝ} (ha : HasValue F a u) (hb : HasValue F b v)
    (hc : HasValue F c w) : ExactResult F (fun mode => ieee754.fma F mode a b c) (u * v + w)
  | fromInt {F : Fmt} (n : ℤ) : ExactResult F (fun mode => ieee754.fromInt F mode n) n
  | narrow {a : BitVec 64} {u : ℝ} (ha : HasValue .double a u) :
    ExactResult .single (fun mode => ieee754.narrow mode a) u
  | widen {a : BitVec 32} {u : ℝ} (ha : HasValue .single a u) :
    ExactResult .double (fun _ => ieee754.widen a) u

/-- The exact result `q` overflows in a mode (R137): its magnitude, rounded with no bound on the exponent, is `2^(emax+1)`
or more. To nearest that is so from halfway above the largest finite number on; away from zero, from just above it on. -/
def Overflows (F : Fmt) : RoundingMode → ℝ → Prop
  | .rne, q => (2 : ℝ) ^ (F.emax + 1) - 2 ^ (F.emax - F.fracBits - 1) ≤ |q|
  | .rmm, q => (2 : ℝ) ^ (F.emax + 1) - 2 ^ (F.emax - F.fracBits - 1) ≤ |q|
  | .rtz, q => (2 : ℝ) ^ (F.emax + 1) ≤ |q|
  | .rdn, q => (2 : ℝ) ^ (F.emax + 1) ≤ q ∨ (2 : ℝ) ^ (F.emax + 1) - 2 ^ (F.emax - F.fracBits) < -q
  | .rup, q => (2 : ℝ) ^ (F.emax + 1) ≤ -q ∨ (2 : ℝ) ^ (F.emax + 1) - 2 ^ (F.emax - F.fracBits) < q

/-- `overflow_F(mode, s)` (R138). -/
def overflowBits (F : Fmt) : RoundingMode → Bool → BitVec F.width
  | .rne, neg => infBits F neg
  | .rmm, neg => infBits F neg
  | .rtz, neg => largestBits F neg
  | .rdn, neg => if neg then infBits F true else largestBits F false
  | .rup, neg => if neg then largestBits F true else infBits F false

/-- The exact result `q`, rounded with no bound on the exponent, is below `2^emin` in magnitude (R137: tininess is detected
after rounding). -/
def Tiny (F : Fmt) : RoundingMode → ℝ → Prop
  | .rne, q => |q| < (2 : ℝ) ^ F.emin - 2 ^ (F.emin - F.fracBits - 2)
  | .rmm, q => |q| < (2 : ℝ) ^ F.emin - 2 ^ (F.emin - F.fracBits - 2)
  | .rtz, q => |q| < (2 : ℝ) ^ F.emin
  | .rdn, q => q < (2 : ℝ) ^ F.emin ∧ -q ≤ (2 : ℝ) ^ F.emin - 2 ^ (F.emin - F.fracBits - 1)
  | .rup, q => -q < (2 : ℝ) ^ F.emin ∧ q ≤ (2 : ℝ) ^ F.emin - 2 ^ (F.emin - F.fracBits - 1)

end Sys2Proof.Machine
end

