-- ==== Sys2Proof/Certificates/Slice0/Obligations.lean ====
section
/-! DEFINITION. The statements for the provers. The predicates they use (`CompletesFS`, `WroteF`, `Stored`, `Trapped`,
`CsrReads`, `CsrWritten`, `ExactResult`, `Inv` and the rest) are defined in Sys2Proof/Safety.lean. -/

open Sys2Proof Sys2Proof.Machine

/-! ### Encoding -/

/-- R92 to R109: every instruction, with every operand at every value its field admits, is read back from its word. -/
def Obligations.DecodeOfEncode : Prop :=
  ∀ i : Instr, decodeWord (encode i) = .instr i

/-- R109: a word is the word of the instruction it decodes to, and at most one row of the table matches any word. -/
def Obligations.EncodeOfDecodeAndOneRow : Prop :=
  ∀ w : Insn, (∀ i : Instr, decodeWord w = .instr i → encode i = w) ∧
    (rows.filter fun r => w &&& r.mask == r.bits).length ≤ 1

/-- Words written out in the spec's examples (R170, R273, R301, R320, R341, R345), of different formats and families. -/
def Obligations.SanityWords : Prop :=
  decodeWord 0x0020f1d3 = .instr (.faddS 3 1 2 0b111) ∧
  decodeWord 0x1a20f243 = .instr (.fmaddD 4 1 2 3 0b111) ∧
  decodeWord 0xfe152e27 = .instr (.fsw 1 10 0xffc) ∧
  decodeWord 0x003022f3 = .instr (.csrrs 5 0 0x003) ∧
  decodeWord 0xff9ff06f = .instr (.jal 0 0xffffc) ∧
  decodeWord 0x160522af = .instr (.lrW 5 10 true true) ∧
  decodeWord 0x123452b7 = .instr (.lui 5 0x12345) ∧
  decodeWord 0x30200073 = .instr .mret

/-- R116: a fetched all-zero or all-ones word raises illegal instruction, not the refusal of R90. -/
def Obligations.AllZeroAndAllOnesAreIllegal : Prop :=
  ∀ (s : State) (w : Insn), atHalt s = false → fetch s = .word w → w = 0 ∨ w = BitVec.allOnes 32 →
    step s = raise .illegalInstruction (w.setWidth 64) s

/-- R90, R110, R115: what a step does with a fetched word that no row matches, other than the two words of R116: a
16-bit parcel or the start of a longer instruction is refused; a word of one of the seven floating-point opcodes raises
illegal instruction; any other is refused. -/
def Obligations.UnmatchedWords : Prop :=
  ∀ (s : State) (w : Insn), atHalt s = false → fetch s = .word w → w ≠ 0 → w ≠ BitVec.allOnes 32 →
    (w.extractLsb' 0 2 ≠ 0b11#2 ∨ w.extractLsb' 2 3 = 0b111#3 → step s = .refused (.notThirtyTwoBit w)) ∧
    (w.extractLsb' 0 2 = 0b11#2 → w.extractLsb' 2 3 ≠ 0b111#3 → (∀ r ∈ rows, w &&& r.mask ≠ r.bits) →
      (opcodeOf w ∈ fpMajorOpcodes → step s = raise .illegalInstruction (w.setWidth 64) s) ∧
      (opcodeOf w ∉ fpMajorOpcodes → step s = .refused (.noEntry w)))

/-! ### The step -/

/-- R20, R61, R69, R109: when the four bytes at `pc` are executable, in `CODE`, have a value and decode, lowest address
first, to the instruction `i`, and `pc` is not the HALT address, a step is `exec i`. -/
def Obligations.StepRunsDecodedInstruction : Prop :=
  ∀ (s : State) (i : Instr) (b0 b1 b2 b3 : Byte), atHalt s = false →
    (∀ k < 4, executableAt s.cfg (byteAddr s.cfg (readPc s) k) = true ∧
      codeAt s.cfg (byteAddr s.cfg (readPc s) k) = true) →
    memByte s.mem (byteAddr s.cfg (readPc s) 0) = some b0 → memByte s.mem (byteAddr s.cfg (readPc s) 1) = some b1 →
    memByte s.mem (byteAddr s.cfg (readPc s) 2) = some b2 → memByte s.mem (byteAddr s.cfg (readPc s) 3) = some b3 →
    decodeBytes [b0, b1, b2, b3] = .instr i → step s = exec i s

/-- R68, R69, R362, R420: a step that fetches no word. At the HALT address the run ends; a byte in no executable region
raises instruction access fault with `pc` as trap value. The model's choices: executable bytes of which some is not in
`CODE` are refused (DEDUCED, log 23), and a byte of `CODE` that has no value stops the model (DESIGN CHOICE, log 7). -/
def Obligations.StepThatFetchesNoWord : Prop :=
  ∀ s : State,
    (s.cfg.halt = some (readPc s) → step s = .fault (.halted (readPc s))) ∧
    (s.cfg.halt ≠ some (readPc s) → (∃ k < 4, executableAt s.cfg (byteAddr s.cfg (readPc s) k) = false) →
      step s = raise .instructionAccessFault (readPc s) s) ∧
    (s.cfg.halt ≠ some (readPc s) → (∀ k < 4, executableAt s.cfg (byteAddr s.cfg (readPc s) k) = true) →
      (∃ k < 4, codeAt s.cfg (byteAddr s.cfg (readPc s) k) = false) →
      step s = .refused (.fetchOutsideCode (readPc s))) ∧
    (s.cfg.halt ≠ some (readPc s) → (∀ k < 4, executableAt s.cfg (byteAddr s.cfg (readPc s) k) = true ∧
        codeAt s.cfg (byteAddr s.cfg (readPc s) k) = true) →
      (∃ k < 4, memByte s.mem (byteAddr s.cfg (readPc s) k) = none) →
      ∃ p, step s = .fault (.unwrittenByte p) ∧ memByte s.mem p = none)

/-- R50, R400: the machine after reset is in machine mode at the reset address, with `MIE` 0, `x[0]` 0 and no
reservation, in whatever configuration it is reset. -/
def Obligations.ResetState : Prop :=
  ∀ c : Config, (State.resetWith c).cfg = c ∧ (State.resetWith c).priv = .machine ∧
    readPc (State.resetWith c) = fit c c.resetPc ∧ (State.resetWith c).mstatus.mie = false ∧
    readX (State.resetWith c) 0 = 0 ∧ (State.resetWith c).reservation = none

/-! ### Exceptions and the return from them -/

/-- R372: trap entry, for every exception, trap value and state, under the full option of D12; with the codes that R360
gives the seven exceptions. That `mtval` receives the trap value is the model's choice (DESIGN CHOICE, log 16: an
implementation may write 0). -/
def Obligations.TrapEntry : Prop :=
  (∀ (e : Exc) (tv : Word) (s : State), s.cfg.traps = .full →
    ∃ t, raise e tv s = .next t ∧ Trapped e tv s t ∧ SameMem s t) ∧
  excCode .instructionAddressMisaligned = 0 ∧ excCode .instructionAccessFault = 1 ∧ excCode .illegalInstruction = 2 ∧
  excCode .loadAddressMisaligned = 4 ∧ excCode .loadAccessFault = 5 ∧ excCode .storeAddressMisaligned = 6 ∧
  excCode .storeAccessFault = 7

/-- R377: under the terminal option every exception ends the run in `Fault(E, pc, tv)`. -/
def Obligations.TerminalOptionEndsTheRun : Prop :=
  ∀ (e : Exc) (tv : Word) (s : State), s.cfg.traps = .terminal →
    raise e tv s = .fault (.terminal e (readPc s) (fit s.cfg tv))

/-- R376: a trap followed at once by `mret` restores `pc`, the mode and `MIE`, sets `MPIE`, leaves `MPP` 0 with user mode
and 3 without, keeps `mcause`, `mtval` and `mepc`, and fetches the faulting instruction again. The premises on `pc` and on
the mode are parts of `Inv`. -/
def Obligations.TrapThenReturn : Prop :=
  ∀ (e : Exc) (tv : Word) (s : State), s.cfg.traps = .full → pcAligned s.cfg s.pc = true →
    (s.cfg.hasU = false → s.priv = .machine) →
    ∃ t u, raise e tv s = .next t ∧ exec .mret t = .next u ∧ readPc u = readPc s ∧ u.priv = s.priv ∧
      u.mstatus.mie = s.mstatus.mie ∧ u.mstatus.mpie = true ∧
      u.mstatus.mpp = (if s.cfg.hasU then .user else .machine) ∧
      u.mcause = t.mcause ∧ u.mtval = t.mtval ∧ u.mepc = t.mepc ∧ fetch u = fetch s

/-- R345, R386: `mret` in machine mode, and in user mode, where it is illegal. -/
def Obligations.MretReturnsOrIsIllegal : Prop :=
  ∀ s : State,
    (s.priv = .machine → ∃ t, exec .mret s = .next t ∧ readPc t = readMepc s ∧ t.priv = s.mstatus.mpp ∧
      t.mstatus.mie = s.mstatus.mpie ∧ t.mstatus.mpie = true ∧
      t.mstatus.mpp = (if s.cfg.hasU then .user else s.mstatus.mpp) ∧ t.mstatus.fs = s.mstatus.fs ∧
      t.mepc = s.mepc ∧ t.mcause = s.mcause ∧ t.mtval = s.mtval ∧ t.mtvec = s.mtvec ∧ t.cfg = s.cfg ∧
      t.fcsr = s.fcsr ∧ t.reservation = s.reservation ∧ SameX s t ∧ SameF s t ∧ SameMem s t) ∧
    (s.priv = .user → exec .mret s = raise .illegalInstruction 0x30200073 s)

/-- R34, R37: with `FS` 0, every instruction of the seven floating-point opcodes, and every CSR instruction on `fflags`,
`frm` or `fcsr`, raises illegal instruction with its word as trap value. -/
def Obligations.FpOffIsIllegal : Prop :=
  ∀ s : State, s.mstatus.fs = 0 →
    (∀ i : Instr, opcodeOf (encode i) ∈ fpMajorOpcodes →
      exec i s = raise .illegalInstruction ((encode i).setWidth 64) s) ∧
    (∀ (rd rs1 : XReg) (n : BitVec 12), n = 0x001 ∨ n = 0x002 ∨ n = 0x003 →
      exec (.csrrw rd rs1 n) s = raise .illegalInstruction ((encode (.csrrw rd rs1 n)).setWidth 64) s ∧
      exec (.csrrs rd rs1 n) s = raise .illegalInstruction ((encode (.csrrs rd rs1 n)).setWidth 64) s)

/-- R111: a reserved rounding-mode field, or a dynamic one while `frm` is 5, 6 or 7, is illegal, for every instruction
that has the field. -/
def Obligations.ReservedRoundingModeIsIllegal : Prop :=
  ∀ (i : Instr) (rm : BitVec 3) (s : State), i.rmField = some rm →
    (rm = 0b101 ∨ rm = 0b110 ∨ (rm = 0b111 ∧ 5 ≤ (fcsrFrm s.fcsr).toNat)) →
    exec i s = raise .illegalInstruction ((encode i).setWidth 64) s

/-- R109, R110 (a), R223, R336, R337, R342, D3, D17: an instruction that the configuration lacks is illegal: with XLEN 32
the eight conversions to and from 64-bit integers, the two 64-bit moves, `lwu`, `ld` and `lr.d`; without `HAS_D` the
instructions of D; without `HAS_A` those of A. -/
def Obligations.AbsentInstructionIsIllegal : Prop :=
  ∀ (i : Instr) (s : State) (rd rs1 rs2 rs3 : BitVec 5) (rm : BitVec 3) (imm : BitVec 12) (aq rl : Bool),
    (s.cfg.xlen = .rv32 ∧
      i ∈ [.fcvtLS rd rs1 rm, .fcvtLuS rd rs1 rm, .fcvtLD rd rs1 rm, .fcvtLuD rd rs1 rm, .fcvtSL rd rs1 rm,
        .fcvtSLu rd rs1 rm, .fcvtDL rd rs1 rm, .fcvtDLu rd rs1 rm, .fmvXD rd rs1, .fmvDX rd rs1, .lwu rd rs1 imm,
        .ld rd rs1 imm, .lrD rd rs1 aq rl]) ∨
    (s.cfg.hasD = false ∧
      i ∈ [.faddD rd rs1 rs2 rm, .fsubD rd rs1 rs2 rm, .fmulD rd rs1 rs2 rm, .fdivD rd rs1 rs2 rm, .fsqrtD rd rs1 rm,
        .fminD rd rs1 rs2, .fmaxD rd rs1 rs2, .fmaddD rd rs1 rs2 rs3 rm, .fmsubD rd rs1 rs2 rs3 rm,
        .fnmsubD rd rs1 rs2 rs3 rm, .fnmaddD rd rs1 rs2 rs3 rm, .feqD rd rs1 rs2, .fltD rd rs1 rs2, .fleD rd rs1 rs2,
        .fclassD rd rs1, .fcvtWD rd rs1 rm, .fcvtWuD rd rs1 rm, .fcvtLD rd rs1 rm, .fcvtLuD rd rs1 rm,
        .fcvtDW rd rs1 rm, .fcvtDWu rd rs1 rm, .fcvtDL rd rs1 rm, .fcvtDLu rd rs1 rm, .fcvtSD rd rs1 rm,
        .fcvtDS rd rs1 rm, .fmvXD rd rs1, .fmvDX rd rs1, .fld rd rs1 imm, .fsd rs2 rs1 imm, .fsgnjD rd rs1 rs2,
        .fsgnjnD rd rs1 rs2, .fsgnjxD rd rs1 rs2]) ∨
    (s.cfg.hasA = false ∧ i ∈ [.lrW rd rs1 aq rl, .lrD rd rs1 aq rl]) →
    exec i s = raise .illegalInstruction ((encode i).setWidth 64) s

/-- R26, R322, R361: a jump to a misaligned target raises instruction address misaligned on the jump with the target as
trap value; with IALIGN 16 no jump from an even `pc` does. -/
def Obligations.MisalignedJumpTraps : Prop :=
  ∀ (s : State) (rd rs1 : XReg) (off : BitVec 20) (imm : BitVec 12),
    (s.cfg.ialign = .i32 →
      ((jalTarget s off).toNat % 4 ≠ 0 →
        exec (.jal rd off) s = raise .instructionAddressMisaligned (jalTarget s off) s) ∧
      ((jalrTarget s rs1 imm).toNat % 4 ≠ 0 →
        exec (.jalr rd rs1 imm) s = raise .instructionAddressMisaligned (jalrTarget s rs1 imm) s)) ∧
    (s.cfg.ialign = .i16 → (readPc s).toNat % 2 = 0 →
      pcAligned s.cfg (jalTarget s off) = true ∧ pcAligned s.cfg (jalrTarget s rs1 imm) = true)

/-! ### Jumps, loads, `lui`, fences -/

/-- R320, R321, R24: a jump to an aligned target links `pc + 4` and goes there: `pc` plus the offset, or `x[rs1]` plus the
offset with bit 0 cleared. It touches nothing else. -/
def Obligations.JumpsLinkAndGo : Prop :=
  ∀ (s : State) (rd rs1 : XReg) (off : BitVec 20) (imm : BitVec 12),
    (pcAligned s.cfg (fit s.cfg (readPc s + sext s.cfg (off ++ 0#1))) = true →
      ∃ t, exec (.jal rd off) s = .next t ∧
        WroteInt rd (nextPc s) s.reservation (fit s.cfg (readPc s + sext s.cfg (off ++ 0#1))) s t) ∧
    (pcAligned s.cfg (fit s.cfg (readX s rs1 + sext s.cfg imm) &&& ~~~ 1) = true →
      ∃ t, exec (.jalr rd rs1 imm) s = .next t ∧
        WroteInt rd (nextPc s) s.reservation (fit s.cfg (readX s rs1 + sext s.cfg imm) &&& ~~~ 1) s t)

/-- R330 to R337, R341, R342, R343, R45: an integer load whose access may be made and whose bytes are readable writes the
bytes, little-endian, sign- or zero-extended, and touches nothing else. A load-reserved at an aligned readable address
writes the sign-extended value and registers the reservation, whatever `aq` and `rl` are. -/
def Obligations.IntegerLoadsAndLoadReservedComplete : Prop :=
  ∀ (s : State) (rd rs1 : XReg) (imm : BitVec 12) (aq rl : Bool) (v : Word),
    (Loads s (effAddr s rs1 imm) 1 v →
      CompletesInt (.lb rd rs1 imm) rd (sext s.cfg (v.extractLsb' 0 8)) s.reservation s ∧
      CompletesInt (.lbu rd rs1 imm) rd (zext s.cfg (v.extractLsb' 0 8)) s.reservation s) ∧
    (AccessAligned s (effAddr s rs1 imm) 2 → Loads s (effAddr s rs1 imm) 2 v →
      CompletesInt (.lh rd rs1 imm) rd (sext s.cfg (v.extractLsb' 0 16)) s.reservation s ∧
      CompletesInt (.lhu rd rs1 imm) rd (zext s.cfg (v.extractLsb' 0 16)) s.reservation s) ∧
    (AccessAligned s (effAddr s rs1 imm) 4 → Loads s (effAddr s rs1 imm) 4 v →
      CompletesInt (.lw rd rs1 imm) rd (sext s.cfg (v.extractLsb' 0 32)) s.reservation s ∧
      (s.cfg.xlen = .rv64 →
        CompletesInt (.lwu rd rs1 imm) rd (zext s.cfg (v.extractLsb' 0 32)) s.reservation s)) ∧
    (s.cfg.xlen = .rv64 → AccessAligned s (effAddr s rs1 imm) 8 → Loads s (effAddr s rs1 imm) 8 v →
      CompletesInt (.ld rd rs1 imm) rd v s.reservation s) ∧
    (s.cfg.hasA = true → (readX s rs1).toNat % 4 = 0 → Loads s (readX s rs1) 4 v →
      CompletesInt (.lrW rd rs1 aq rl) rd (sext s.cfg (v.extractLsb' 0 32)) (some ⟨readX s rs1, 4⟩) s) ∧
    (s.cfg.hasA = true → s.cfg.xlen = .rv64 → (readX s rs1).toNat % 8 = 0 → Loads s (readX s rs1) 8 v →
      CompletesInt (.lrD rd rs1 aq rl) rd v (some ⟨readX s rs1, 8⟩) s)

/-- R340, R75, R80, R260, R261: `lui` writes its 20 bits above 12 zeros, sign-extended from 32 bits; `fence` and
`fence.i` change only `pc`, whatever their fields. -/
def Obligations.LuiAndFencesComplete : Prop :=
  ∀ (s : State) (rd rs1 : XReg) (u : BitVec 20) (fm pred succ : BitVec 4) (imm : BitVec 12),
    CompletesInt (.lui rd u) rd (sext s.cfg (u ++ 0#12)) s.reservation s ∧
    CompletesInt (.fence fm pred succ rs1 rd) 0 0 s.reservation s ∧
    CompletesInt (.fenceI imm rs1 rd) 0 0 s.reservation s

/-- R62, R68, R330, R343, R270, R364: a load of `n` bytes at `a` that cannot be made: misaligned where that traps
(always for load-reserved, R63), else a byte not readable. Both raise with `a` as trap value, for all eleven loads. The
model's choices: a misaligned load-reserved raises code 4 and not 5 (DESIGN CHOICE, log 17: R63 and I6 leave it open);
misaligned comes before access fault (DESIGN CHOICE, log 18: R270, I7); a byte that has no value stops the model (DESIGN
CHOICE, log 7). -/
def Obligations.LoadsThatDoNotComplete : Prop :=
  ∀ (s : State) (i : Instr) (a : Word) (n : Nat) (strict : Bool) (rd rs1 : XReg) (fd : FReg) (imm : BitVec 12)
    (aq rl : Bool),
    ((strict = false ∧ a = effAddr s rs1 imm ∧
        ((i = .lb rd rs1 imm ∧ n = 1) ∨ (i = .lbu rd rs1 imm ∧ n = 1) ∨ (i = .lh rd rs1 imm ∧ n = 2) ∨
          (i = .lhu rd rs1 imm ∧ n = 2) ∨ (i = .lw rd rs1 imm ∧ n = 4) ∨
          (i = .lwu rd rs1 imm ∧ n = 4 ∧ s.cfg.xlen = .rv64) ∨ (i = .ld rd rs1 imm ∧ n = 8 ∧ s.cfg.xlen = .rv64) ∨
          (i = .flw fd rs1 imm ∧ n = 4 ∧ s.mstatus.fs ≠ 0) ∨
          (i = .fld fd rs1 imm ∧ n = 8 ∧ s.mstatus.fs ≠ 0 ∧ s.cfg.hasD = true))) ∨
      (strict = true ∧ a = readX s rs1 ∧ s.cfg.hasA = true ∧
        ((i = .lrW rd rs1 aq rl ∧ n = 4) ∨ (i = .lrD rd rs1 aq rl ∧ n = 8 ∧ s.cfg.xlen = .rv64)))) →
    (a.toNat % n ≠ 0 → (strict = true ∨ s.cfg.misaligned = .trap) →
      exec i s = raise .loadAddressMisaligned a s) ∧
    ((a.toNat % n = 0 ∨ (strict = false ∧ s.cfg.misaligned = .split)) →
      (∃ k < n, readableAt s.cfg (byteAddr s.cfg a k) = false) → exec i s = raise .loadAccessFault a s) ∧
    ((a.toNat % n = 0 ∨ (strict = false ∧ s.cfg.misaligned = .split)) →
      (∀ k < n, readableAt s.cfg (byteAddr s.cfg a k) = true) →
      (∃ k < n, memByte s.mem (byteAddr s.cfg a k) = none) →
      ∃ p, exec i s = .fault (.unwrittenByte p) ∧ memByte s.mem p = none)

/-! ### Floating-point loads and stores -/

/-- R271, R272, R150, R152: a floating-point load whose access may be made and whose bytes are readable copies the bytes,
boxed for `flw`, and sets no flag. -/
def Obligations.FpLoadsComplete : Prop :=
  ∀ (s : State) (rd : FReg) (rs1 : XReg) (imm : BitVec 12) (v : Word), s.mstatus.fs ≠ 0 →
    (AccessAligned s (effAddr s rs1 imm) 4 → Loads s (effAddr s rs1 imm) 4 v →
      CompletesFS (.flw rd rs1 imm) rd (v.extractLsb' 0 32, flagNone) s) ∧
    (s.cfg.hasD = true → AccessAligned s (effAddr s rs1 imm) 8 → Loads s (effAddr s rs1 imm) 8 v →
      CompletesFD (.fld rd rs1 imm) rd (v, flagNone) s)

/-- R273, R274, R61: a floating-point store whose access may be made and whose bytes may be written stores the raw low 4
bytes, or all 8 bytes, of `f[rs2]` at the effective address, and touches nothing else but `FS`. -/
def Obligations.FpStoresComplete : Prop :=
  ∀ (s : State) (rs2 : FReg) (rs1 : XReg) (imm : BitVec 12), s.mstatus.fs ≠ 0 →
    (AccessAligned s (effAddr s rs1 imm) 4 → Storable s (effAddr s rs1 imm) 4 →
      ∃ t, exec (.fsw rs2 rs1 imm) s = .next t ∧ Stored (effAddr s rs1 imm) (readF s rs2) 4 s t) ∧
    (s.cfg.hasD = true → AccessAligned s (effAddr s rs1 imm) 8 → Storable s (effAddr s rs1 imm) 8 →
      ∃ t, exec (.fsd rs2 rs1 imm) s = .next t ∧ Stored (effAddr s rs1 imm) (readF s rs2) 8 s t)

/-- R62, R68, R270, R364: a store that cannot be made: misaligned where that traps; aligned with a byte not writable;
else refused when a byte that may be written is a byte of `CODE`. The model's choices: misaligned comes before access fault
(DESIGN CHOICE, log 18: R270, I7); an aligned store that meets a byte not writable and another byte of `CODE` raises
(DEDUCED, log 31); a split store that meets both is refused (DESIGN CHOICE, log 14). -/
def Obligations.StoresThatDoNotComplete : Prop :=
  ∀ (s : State) (i : Instr) (n : Nat) (rs2 : FReg) (rs1 : XReg) (imm : BitVec 12), s.mstatus.fs ≠ 0 →
    ((i = .fsw rs2 rs1 imm ∧ n = 4) ∨ (i = .fsd rs2 rs1 imm ∧ n = 8 ∧ s.cfg.hasD = true)) →
    ((effAddr s rs1 imm).toNat % n ≠ 0 → s.cfg.misaligned = .trap →
      exec i s = raise .storeAddressMisaligned (effAddr s rs1 imm) s) ∧
    ((effAddr s rs1 imm).toNat % n = 0 →
      (∃ k < n, writableAt s.cfg (byteAddr s.cfg (effAddr s rs1 imm) k) = false) →
      exec i s = raise .storeAccessFault (effAddr s rs1 imm) s) ∧
    (AccessAligned s (effAddr s rs1 imm) n →
      (∀ k < n, writableAt s.cfg (byteAddr s.cfg (effAddr s rs1 imm) k) = true) →
      (∃ k < n, codeAt s.cfg (byteAddr s.cfg (effAddr s rs1 imm) k) = true) →
      exec i s = .refused (.storeToCode (effAddr s rs1 imm))) ∧
    ((effAddr s rs1 imm).toNat % n ≠ 0 → s.cfg.misaligned = .split →
      (∃ k < n, writableAt s.cfg (byteAddr s.cfg (effAddr s rs1 imm) k) = false) →
      (∃ k < n, writableAt s.cfg (byteAddr s.cfg (effAddr s rs1 imm) k) = true ∧
        codeAt s.cfg (byteAddr s.cfg (effAddr s rs1 imm) k) = true) →
      exec i s = .refused (.storeToCode (effAddr s rs1 imm)))

/-- R62, R372: a misaligned store performed in pieces that meets a byte that is not writable takes the access fault; which
of the writable bytes it wrote is not specified, a byte that is not writable and every byte outside the access are
unchanged. That `mtval` receives the address is the model's choice (DESIGN CHOICE, log 16), and so is the refusal where a
writable byte of the access is in `CODE` (log 14), which `StoresThatDoNotComplete` states. -/
def Obligations.SplitStoreFault : Prop :=
  ∀ (s : State) (i : Instr) (n : Nat) (rs2 : FReg) (rs1 : XReg) (imm : BitVec 12), s.mstatus.fs ≠ 0 →
    ((i = .fsw rs2 rs1 imm ∧ n = 4) ∨ (i = .fsd rs2 rs1 imm ∧ n = 8 ∧ s.cfg.hasD = true)) →
    s.cfg.traps = .full → s.cfg.misaligned = .split → (effAddr s rs1 imm).toNat % n ≠ 0 →
    (∃ k < n, writableAt s.cfg (byteAddr s.cfg (effAddr s rs1 imm) k) = false) →
    (∀ k < n, writableAt s.cfg (byteAddr s.cfg (effAddr s rs1 imm) k) = true →
      codeAt s.cfg (byteAddr s.cfg (effAddr s rs1 imm) k) = false) →
    ∃ t, exec i s = .next t ∧ Trapped .storeAccessFault (effAddr s rs1 imm) s t ∧
      SameMemBut (effAddr s rs1 imm) n s t ∧
      ∀ k < n,
        memByte t.mem (byteAddr s.cfg (effAddr s rs1 imm) k) = memByte s.mem (byteAddr s.cfg (effAddr s rs1 imm) k) ∨
        (writableAt s.cfg (byteAddr s.cfg (effAddr s rs1 imm) k) = true ∧
          memByte t.mem (byteAddr s.cfg (effAddr s rs1 imm) k) = some (byteOf (readF s rs2) k))

/-- R275: `fsd` then `fld` of the same address restores all 64 bits of any register; `fsw` then `flw` gives the low half
back, boxed; `fsw` then `lw` gives its sign extension. -/
def Obligations.StoreThenLoadRestores : Prop :=
  ∀ (s : State) (rd rs2 : FReg) (xd rs1 : XReg) (imm : BitVec 12), s.mstatus.fs ≠ 0 →
    (s.cfg.hasD = true → AccessAligned s (effAddr s rs1 imm) 8 → Storable s (effAddr s rs1 imm) 8 →
      (∀ k < 8, readableAt s.cfg (byteAddr s.cfg (effAddr s rs1 imm) k) = true) →
      ∃ t u, exec (.fsd rs2 rs1 imm) s = .next t ∧ exec (.fld rd rs1 imm) t = .next u ∧
        readF u rd = readF s rs2) ∧
    (AccessAligned s (effAddr s rs1 imm) 4 → Storable s (effAddr s rs1 imm) 4 →
      (∀ k < 4, readableAt s.cfg (byteAddr s.cfg (effAddr s rs1 imm) k) = true) →
      ∃ t u v, exec (.fsw rs2 rs1 imm) s = .next t ∧ exec (.flw rd rs1 imm) t = .next u ∧
        readF u rd = box s.cfg (readFLow s rs2) ∧
        exec (.lw xd rs1 imm) t = .next v ∧ (xd ≠ 0 → readX v xd = sext s.cfg (readFLow s rs2)))

/-- R60, R61: after a store of `n` bytes of `v` at `a`, a read of any `m` bytes of it from byte `j` on gives those bytes of
`v`, little-endian, and a byte outside reads as before. -/
def Obligations.StoredBytesReadBack : Prop :=
  ∀ (s : State) (a v : Word) (n m j : Nat), n ≤ 8 → j + m ≤ n →
    readBytes s.cfg (storeBytes s a v n).mem (a + BitVec.ofNat 64 j) m =
      .ok ((v.extractLsb' (8 * j) (8 * m)).setWidth 64) ∧
    SameMemBut a n s (storeBytes s a v n)

/-! ### Floating-point arithmetic -/

/-- R7, R168, R170 to R179, R155: the configuration selects the numerics, the IEEE instance of file 40 by default; add, subtract, multiply, divide and square root of the operands at the instruction's rounding
mode, in single (unboxed operands, boxed result, R150, R151) and double precision. -/
def Obligations.ArithmeticCompletes : Prop :=
  numericsOf State.reset.cfg = ieee754 ∧ (∀ c : Config, c.numerics = .ieee754 → numericsOf c = ieee754) ∧
  ∀ (s : State) (rd rs1 rs2 : FReg) (rm : BitVec 3) (mode : RoundingMode), s.mstatus.fs ≠ 0 →
    resolveRm rm (fcsrFrm s.fcsr) = some mode →
    (CompletesFS (.faddS rd rs1 rs2 rm) rd ((numericsOf s.cfg).add .single mode (readFS s rs1) (readFS s rs2)) s ∧
      CompletesFS (.fsubS rd rs1 rs2 rm) rd ((numericsOf s.cfg).sub .single mode (readFS s rs1) (readFS s rs2)) s ∧
      CompletesFS (.fmulS rd rs1 rs2 rm) rd ((numericsOf s.cfg).mul .single mode (readFS s rs1) (readFS s rs2)) s ∧
      CompletesFS (.fdivS rd rs1 rs2 rm) rd ((numericsOf s.cfg).div .single mode (readFS s rs1) (readFS s rs2)) s ∧
      CompletesFS (.fsqrtS rd rs1 rm) rd ((numericsOf s.cfg).sqrt .single mode (readFS s rs1)) s) ∧
    (s.cfg.hasD = true →
      CompletesFD (.faddD rd rs1 rs2 rm) rd ((numericsOf s.cfg).add .double mode (readFD s rs1) (readFD s rs2)) s ∧
      CompletesFD (.fsubD rd rs1 rs2 rm) rd ((numericsOf s.cfg).sub .double mode (readFD s rs1) (readFD s rs2)) s ∧
      CompletesFD (.fmulD rd rs1 rs2 rm) rd ((numericsOf s.cfg).mul .double mode (readFD s rs1) (readFD s rs2)) s ∧
      CompletesFD (.fdivD rd rs1 rs2 rm) rd ((numericsOf s.cfg).div .double mode (readFD s rs1) (readFD s rs2)) s ∧
      CompletesFD (.fsqrtD rd rs1 rm) rd ((numericsOf s.cfg).sqrt .double mode (readFD s rs1)) s)

/-- R147, R190 to R197: the four fused operations of the configuration's numerics, single and double, with the operands
negated before the one rounding. -/
def Obligations.FusedArithmeticCompletes : Prop :=
  ∀ (s : State) (rd rs1 rs2 rs3 : FReg) (rm : BitVec 3) (mode : RoundingMode), s.mstatus.fs ≠ 0 →
    resolveRm rm (fcsrFrm s.fcsr) = some mode →
    (∀ a b c : BitVec 32, a = readFS s rs1 → b = readFS s rs2 → c = readFS s rs3 →
      CompletesFS (.fmaddS rd rs1 rs2 rs3 rm) rd ((numericsOf s.cfg).fma .single mode a b c) s ∧
      CompletesFS (.fmsubS rd rs1 rs2 rs3 rm) rd ((numericsOf s.cfg).fma .single mode a b (c ^^^ 0x80000000)) s ∧
      CompletesFS (.fnmsubS rd rs1 rs2 rs3 rm) rd ((numericsOf s.cfg).fma .single mode (a ^^^ 0x80000000) b c) s ∧
      CompletesFS (.fnmaddS rd rs1 rs2 rs3 rm) rd
        ((numericsOf s.cfg).fma .single mode (a ^^^ 0x80000000) b (c ^^^ 0x80000000)) s) ∧
    (s.cfg.hasD = true → ∀ a b c : BitVec 64, a = readFD s rs1 → b = readFD s rs2 → c = readFD s rs3 →
      CompletesFD (.fmaddD rd rs1 rs2 rs3 rm) rd ((numericsOf s.cfg).fma .double mode a b c) s ∧
      CompletesFD (.fmsubD rd rs1 rs2 rs3 rm) rd ((numericsOf s.cfg).fma .double mode a b (c ^^^ 0x8000000000000000)) s ∧
      CompletesFD (.fnmsubD rd rs1 rs2 rs3 rm) rd ((numericsOf s.cfg).fma .double mode (a ^^^ 0x8000000000000000) b c) s ∧
      CompletesFD (.fnmaddD rd rs1 rs2 rs3 rm) rd
        ((numericsOf s.cfg).fma .double mode (a ^^^ 0x8000000000000000) b (c ^^^ 0x8000000000000000)) s)

/-- R180 to R183, R186, R280 to R286: minimum and maximum; and sign injection, which puts a sign over the magnitude bits
of the first operand: the sign of the second, its complement, or the exclusive or of both, with no flag. -/
def Obligations.MinMaxAndSignInjectionComplete : Prop :=
  ∀ (s : State) (rd rs1 rs2 : FReg), s.mstatus.fs ≠ 0 →
    CompletesFS (.fminS rd rs1 rs2) rd (fpMinMax .single false (readFS s rs1) (readFS s rs2)) s ∧
    CompletesFS (.fmaxS rd rs1 rs2) rd (fpMinMax .single true (readFS s rs1) (readFS s rs2)) s ∧
    (s.cfg.hasD = true →
      CompletesFD (.fminD rd rs1 rs2) rd (fpMinMax .double false (readFD s rs1) (readFD s rs2)) s ∧
      CompletesFD (.fmaxD rd rs1 rs2) rd (fpMinMax .double true (readFD s rs1) (readFD s rs2)) s) ∧
    (∀ a b : BitVec 32, a = readFS s rs1 → b = readFS s rs2 →
      CompletesFS (.fsgnjS rd rs1 rs2) rd (BitVec.ofBool (b.getLsbD 31) ++ a.extractLsb' 0 31, flagNone) s ∧
      CompletesFS (.fsgnjnS rd rs1 rs2) rd (BitVec.ofBool (!b.getLsbD 31) ++ a.extractLsb' 0 31, flagNone) s ∧
      CompletesFS (.fsgnjxS rd rs1 rs2) rd
        (BitVec.ofBool (a.getLsbD 31 ^^ b.getLsbD 31) ++ a.extractLsb' 0 31, flagNone) s) ∧
    (s.cfg.hasD = true → ∀ a b : BitVec 64, a = readFD s rs1 → b = readFD s rs2 →
      CompletesFD (.fsgnjD rd rs1 rs2) rd (BitVec.ofBool (b.getLsbD 63) ++ a.extractLsb' 0 63, flagNone) s ∧
      CompletesFD (.fsgnjnD rd rs1 rs2) rd (BitVec.ofBool (!b.getLsbD 63) ++ a.extractLsb' 0 63, flagNone) s ∧
      CompletesFD (.fsgnjxD rd rs1 rs2) rd
        (BitVec.ofBool (a.getLsbD 63 ^^ b.getLsbD 63) ++ a.extractLsb' 0 63, flagNone) s)

/-- R200 to R206: the six compares write exactly 0 or 1. -/
def Obligations.ComparesComplete : Prop :=
  ∀ (s : State) (rd : XReg) (rs1 rs2 : FReg), s.mstatus.fs ≠ 0 →
    (∀ rel : Rel, ∀ r : Bool × FFlags, r = fpCompare .single rel (readFS s rs1) (readFS s rs2) →
      (rel = .eq → CompletesX (.feqS rd rs1 rs2) rd (if r.1 then 1 else 0) r.2 s) ∧
      (rel = .lt → CompletesX (.fltS rd rs1 rs2) rd (if r.1 then 1 else 0) r.2 s) ∧
      (rel = .le → CompletesX (.fleS rd rs1 rs2) rd (if r.1 then 1 else 0) r.2 s)) ∧
    (s.cfg.hasD = true →
      ∀ rel : Rel, ∀ r : Bool × FFlags, r = fpCompare .double rel (readFD s rs1) (readFD s rs2) →
      (rel = .eq → CompletesX (.feqD rd rs1 rs2) rd (if r.1 then 1 else 0) r.2 s) ∧
      (rel = .lt → CompletesX (.fltD rd rs1 rs2) rd (if r.1 then 1 else 0) r.2 s) ∧
      (rel = .le → CompletesX (.fleD rd rs1 rs2) rd (if r.1 then 1 else 0) r.2 s))

/-- R132, R210, R211, R212: the value of a pattern, from its sign, exponent and fraction fields; and classify writes one of ten bits and sets no flag; the bit says what the value of the operand is,
its sign (bits 0 to 3 negative, 4 to 7 positive) and, for a NaN, whether it is signaling (bit 8) or quiet (bit 9). -/
def Obligations.ClassifyCompletes : Prop :=
  (∀ (s : State) (rd : XReg) (rs1 : FReg), s.mstatus.fs ≠ 0 →
    CompletesX (.fclassS rd rs1) rd ((fpClassify .single (readFS s rs1)).setWidth 64) flagNone s ∧
    (s.cfg.hasD = true →
      CompletesX (.fclassD rd rs1) rd ((fpClassify .double (readFD s rs1)).setWidth 64) flagNone s)) ∧
  (∀ (F : Fmt) (a : BitVec F.width), ∃ k < 10, fpClassify F a = BitVec.twoPow 10 k ∧
    (fpVal F a = .nan true ↔ k = 8) ∧ (fpVal F a = .nan false ↔ k = 9) ∧
    (fpVal F a = .inf true ↔ k = 0) ∧ (fpVal F a = .inf false ↔ k = 7) ∧
    ((∃ e, fpVal F a = .fin true 0 e) ↔ k = 3) ∧ ((∃ e, fpVal F a = .fin false 0 e) ↔ k = 4) ∧
    ((∃ m e, fpVal F a = .fin true m e ∧ 2 ^ F.fracBits ≤ m) ↔ k = 1) ∧
    ((∃ m e, fpVal F a = .fin false m e ∧ 2 ^ F.fracBits ≤ m) ↔ k = 6) ∧
    ((∃ m e, fpVal F a = .fin true m e ∧ 0 < m ∧ m < 2 ^ F.fracBits) ↔ k = 2) ∧
    ((∃ m e, fpVal F a = .fin false m e ∧ 0 < m ∧ m < 2 ^ F.fracBits) ↔ k = 5)) ∧
  (∀ (neg : Bool) (E : BitVec 8) (T : BitVec 23) (v : Val), v = fpVal .single (BitVec.ofBool neg ++ E ++ T) →
    (E = 0 → v = .fin neg T.toNat (-149)) ∧
    (E ≠ 0 → E ≠ 255 → v = .fin neg (2 ^ 23 + T.toNat) (E.toNat - 150)) ∧
    (E = 255 → v = if T = 0 then .inf neg else .nan (!T.msb))) ∧
  (∀ (neg : Bool) (E : BitVec 11) (T : BitVec 52) (v : Val), v = fpVal .double (BitVec.ofBool neg ++ E ++ T) →
    (E = 0 → v = .fin neg T.toNat (-1074)) ∧
    (E ≠ 0 → E ≠ 2047 → v = .fin neg (2 ^ 52 + T.toNat) (E.toNat - 1075)) ∧
    (E = 2047 → v = if T = 0 then .inf neg else .nan (!T.msb)))

/-- R220, R221, R224 to R232: conversion of a single or a double to an integer; a 32-bit result, signed or not, is
sign-extended. -/
def Obligations.FloatToIntegerCompletes : Prop :=
  ∀ (s : State) (rd : XReg) (rs1 : FReg) (rm : BitVec 3) (mode : RoundingMode), s.mstatus.fs ≠ 0 →
    resolveRm rm (fcsrFrm s.fcsr) = some mode →
    (∀ r : BitVec 32 × FFlags,
      (r = (numericsOf s.cfg).toInt .single mode (readFS s rs1) 32 true →
        CompletesX (.fcvtWS rd rs1 rm) rd (sext s.cfg r.1) r.2 s) ∧
      (r = (numericsOf s.cfg).toInt .single mode (readFS s rs1) 32 false →
        CompletesX (.fcvtWuS rd rs1 rm) rd (sext s.cfg r.1) r.2 s) ∧
      (s.cfg.hasD = true → r = (numericsOf s.cfg).toInt .double mode (readFD s rs1) 32 true →
        CompletesX (.fcvtWD rd rs1 rm) rd (sext s.cfg r.1) r.2 s) ∧
      (s.cfg.hasD = true → r = (numericsOf s.cfg).toInt .double mode (readFD s rs1) 32 false →
        CompletesX (.fcvtWuD rd rs1 rm) rd (sext s.cfg r.1) r.2 s)) ∧
    (s.cfg.xlen = .rv64 → ∀ r : BitVec 64 × FFlags,
      (r = (numericsOf s.cfg).toInt .single mode (readFS s rs1) 64 true → CompletesX (.fcvtLS rd rs1 rm) rd r.1 r.2 s) ∧
      (r = (numericsOf s.cfg).toInt .single mode (readFS s rs1) 64 false → CompletesX (.fcvtLuS rd rs1 rm) rd r.1 r.2 s) ∧
      (s.cfg.hasD = true → r = (numericsOf s.cfg).toInt .double mode (readFD s rs1) 64 true →
        CompletesX (.fcvtLD rd rs1 rm) rd r.1 r.2 s) ∧
      (s.cfg.hasD = true → r = (numericsOf s.cfg).toInt .double mode (readFD s rs1) 64 false →
        CompletesX (.fcvtLuD rd rs1 rm) rd r.1 r.2 s))

/-- R222, R235 to R242: conversion of the low 32 bits, or of all 64, of `x[rs1]`, signed or not, to single and double. -/
def Obligations.IntegerToFloatCompletes : Prop :=
  ∀ (s : State) (rd : FReg) (rs1 : XReg) (rm : BitVec 3) (mode : RoundingMode), s.mstatus.fs ≠ 0 →
    resolveRm rm (fcsrFrm s.fcsr) = some mode → ∀ (v : Word) (w : BitVec 32), v = readX s rs1 → w = v.extractLsb' 0 32 →
    CompletesFS (.fcvtSW rd rs1 rm) rd ((numericsOf s.cfg).fromInt .single mode w.toInt) s ∧
    CompletesFS (.fcvtSWu rd rs1 rm) rd ((numericsOf s.cfg).fromInt .single mode w.toNat) s ∧
    (s.cfg.xlen = .rv64 →
      CompletesFS (.fcvtSL rd rs1 rm) rd ((numericsOf s.cfg).fromInt .single mode v.toInt) s ∧
      CompletesFS (.fcvtSLu rd rs1 rm) rd ((numericsOf s.cfg).fromInt .single mode v.toNat) s) ∧
    (s.cfg.hasD = true →
      CompletesFD (.fcvtDW rd rs1 rm) rd ((numericsOf s.cfg).fromInt .double mode w.toInt) s ∧
      CompletesFD (.fcvtDWu rd rs1 rm) rd ((numericsOf s.cfg).fromInt .double mode w.toNat) s ∧
      (s.cfg.xlen = .rv64 →
        CompletesFD (.fcvtDL rd rs1 rm) rd ((numericsOf s.cfg).fromInt .double mode v.toInt) s ∧
        CompletesFD (.fcvtDLu rd rs1 rm) rd ((numericsOf s.cfg).fromInt .double mode v.toNat) s))

/-- R245, R246, R250 to R253: conversion between the two formats; and the moves between the register files, which copy
bits: the raw low half sign-extended, the low half boxed, all 64 bits either way; no flag. -/
def Obligations.FormatConversionsAndMovesComplete : Prop :=
  (∀ (s : State) (rd rs1 : FReg) (rm : BitVec 3) (mode : RoundingMode), s.cfg.hasD = true →
    s.mstatus.fs ≠ 0 → resolveRm rm (fcsrFrm s.fcsr) = some mode →
    CompletesFS (.fcvtSD rd rs1 rm) rd ((numericsOf s.cfg).narrow mode (readFD s rs1)) s ∧
    CompletesFD (.fcvtDS rd rs1 rm) rd ((numericsOf s.cfg).widen (readFS s rs1)) s) ∧
  (∀ (s : State) (fr : FReg) (xr : XReg), s.mstatus.fs ≠ 0 →
    CompletesX (.fmvXW xr fr) xr (sext s.cfg ((readF s fr).extractLsb' 0 32)) flagNone s ∧
    CompletesFS (.fmvWX fr xr) fr ((readX s xr).extractLsb' 0 32, flagNone) s ∧
    (s.cfg.hasD = true → s.cfg.xlen = .rv64 →
      CompletesX (.fmvXD xr fr) xr (readF s fr) flagNone s ∧
      CompletesFD (.fmvDX fr xr) fr (readX s xr, flagNone) s))

/-- R122, R292 to R295, R304 to R309, R324, R325, R348: what the expansions of the pseudo-instructions do: `fmv.d` copies
all 64 bits of any pattern, `fmv.s` gives the boxed unboxed value, `fneg.s` and `fneg.d` flip the sign bit; `frcsr`,
`frflags` and `frrm` read `fcsr` and its parts and write nothing; `fscsr`, `fsflags` and `fsrm` put the old value in
`x[rd]` and write `x[rs1]`; `j` and `jr` jump and link nothing; `li` of a constant that `lui` can make loads it. -/
def Obligations.PseudoInstructionsComplete : Prop :=
  (∀ (s : State) (rd rs1 : FReg), s.mstatus.fs ≠ 0 →
    CompletesFS (pseudoFmvS rd rs1) rd (readFS s rs1, flagNone) s ∧
    CompletesFS (pseudoFnegS rd rs1) rd (readFS s rs1 ^^^ 0x80000000, flagNone) s ∧
    (s.cfg.hasD = true →
      CompletesFD (pseudoFmvD rd rs1) rd (readFD s rs1, flagNone) s ∧
      CompletesFD (pseudoFnegD rd rs1) rd (readFD s rs1 ^^^ 0x8000000000000000, flagNone) s)) ∧
  (∀ (s : State) (rd : XReg) (i : Instr) (v : Word), s.mstatus.fs ≠ 0 →
    (i = pseudoFrcsr rd ∧ v = s.fcsr.setWidth 64) ∨ (i = pseudoFrflags rd ∧ v = (s.fcsr.extractLsb' 0 5).setWidth 64) ∨
      (i = pseudoFrrm rd ∧ v = (s.fcsr.extractLsb' 5 3).setWidth 64) →
    ∃ t, exec i s = .next t ∧ WroteXReg rd v s t ∧ CsrUntouched True s t ∧ readPc t = nextPc s) ∧
  (∀ (s : State) (rd rs1 : XReg) (i : Instr) (v : Word) (r : Csr), s.mstatus.fs ≠ 0 →
    (i = pseudoFscsr rd rs1 ∧ r = .fcsr ∧ v = s.fcsr.setWidth 64) ∨
      (i = pseudoFsflags rd rs1 ∧ r = .fflags ∧ v = (s.fcsr.extractLsb' 0 5).setWidth 64) ∨
      (i = pseudoFsrm rd rs1 ∧ r = .frm ∧ v = (s.fcsr.extractLsb' 5 3).setWidth 64) →
    ∃ t, exec i s = .next t ∧ WroteXReg rd v s t ∧ CsrWritten r (readX s rs1) s t ∧ readPc t = nextPc s) ∧
  (∀ (s : State) (off : BitVec 20) (rs1 : XReg),
    (pcAligned s.cfg (fit s.cfg (readPc s + sext s.cfg (off ++ 0#1))) = true →
      ∃ t, exec (pseudoJ off) s = .next t ∧
        WroteInt 0 0 s.reservation (fit s.cfg (readPc s + sext s.cfg (off ++ 0#1))) s t) ∧
    (pcAligned s.cfg (readX s rs1 &&& ~~~ 1) = true →
      ∃ t, exec (pseudoJr rs1) s = .next t ∧ WroteInt 0 0 s.reservation (readX s rs1 &&& ~~~ 1) s t)) ∧
  (∀ (s : State) (rd : XReg) (v : Word) (i : Instr), pseudoLi s.cfg rd v = some i →
    CompletesInt i rd v s.reservation s)

/-! ### The numerics -/

/-- R150, R151, R28: unboxing a boxed single gives it back; with D, a register whose upper half is not all ones reads as
the canonical NaN and a boxed single read as a double is a negative quiet NaN; without D the low half is read as it is. -/
def Obligations.BoxingAndUnboxing : Prop :=
  ∀ (c : Config) (v : BitVec 32) (w : Word),
    unbox c (box c v) = v ∧
    (c.hasD = true → box c v = 0xffffffff#32 ++ v ∧
      (w.extractLsb' 32 32 ≠ 0xffffffff#32 → unbox c w = 0x7fc00000) ∧
      (box c v).msb = true ∧ fpVal .double (box c v) = .nan false) ∧
    (c.hasD = false → unbox c w = w.extractLsb' 0 32)

/-- R137: the integer that each rounding mode picks for an exact real `u` that is not negative: the nearest, ties to the
even one or to the larger one; the floor; or the ceiling. -/
def Obligations.RoundingModesPickTheirInteger : Prop :=
  ∀ (u : Mag) (neg : Bool), u.Proper →
    (∀ k : ℕ, k = rint .rne neg u → ¬ u.Below (k - 1 / 2) ∧ ¬ u.Above (k + 1 / 2) ∧
      (¬ u.Above (k - 1 / 2) ∨ ¬ u.Below (k + 1 / 2) → k % 2 = 0)) ∧
    (∀ k : ℕ, k = rint .rmm neg u → ¬ u.Below (k - 1 / 2) ∧ u.Below (k + 1 / 2)) ∧
    (∀ k : ℕ, k = rint .rtz neg u → ¬ u.Below k ∧ u.Below (k + 1)) ∧
    (∀ k : ℕ, k = rint .rdn neg u →
      if neg then ¬ u.Above k ∧ u.Above (k - 1) else ¬ u.Below k ∧ u.Below (k + 1)) ∧
    (∀ k : ℕ, k = rint .rup neg u →
      if neg then ¬ u.Below k ∧ u.Below (k + 1) else ¬ u.Above k ∧ u.Above (k - 1))

/-- R134, R137, R143: rounding a real that the format represents gives its pattern, in every mode, and sets no flag, also
for a subnormal. -/
def Obligations.RepresentableRoundsToItself : Prop :=
  ∀ (F : Fmt) (mode : RoundingMode) (a : BitVec F.width) (neg : Bool) (mant : Nat) (exp : Int),
    fpVal F a = .fin neg mant exp → mant ≠ 0 → ieee754.round F mode neg (magOf mant exp) = (a, flagNone)

/-- R137, R146, R147, R222, R245, R246: the directed modes, for every operation of the IEEE instance on finite operands with
exact result `q`, a fused one and a root included: a finite result rounded down is the greatest value of the format not
above `q`, rounded up the least not below it, rounded towards zero the one of greatest magnitude not beyond it; and in
every mode a finite result with inexact not set is `q`. -/
def Obligations.RoundedResultsBracketTheExactOne : Prop :=
  ∀ (F : Fmt) (op : RoundingMode → BitVec F.width × FFlags) (q : ℝ), ExactResult F op q → ∀ v : ℝ,
    (HasValue F (op .rdn).1 v → v ≤ q ∧ ∀ x w, HasValue F x w → w ≤ q → w ≤ v) ∧
    (HasValue F (op .rup).1 v → q ≤ v ∧ ∀ x w, HasValue F x w → q ≤ w → v ≤ w) ∧
    (HasValue F (op .rtz).1 v → |v| ≤ |q| ∧ 0 ≤ v * q ∧ ∀ x w, HasValue F x w → |w| ≤ |q| → |w| ≤ |v|) ∧
    (∀ mode, HasValue F (op mode).1 v → (op mode).2.getLsbD 0 = false → v = q)

/-- R32, R137: the modes to nearest, for every operation of the IEEE instance on finite operands with exact result `q`: no
value of the format is nearer to `q` than a finite result; of two that are equally near, RNE gives the one whose last bit
is 0 and RMM the one of larger magnitude. -/
def Obligations.NearestResults : Prop :=
  ∀ (F : Fmt) (op : RoundingMode → BitVec F.width × FFlags) (q : ℝ), ExactResult F op q → ∀ v : ℝ,
    (HasValue F (op .rne).1 v → ∀ x w, HasValue F x w →
      |v - q| ≤ |w - q| ∧ (w ≠ v → |v - q| = |w - q| → (op .rne).1.getLsbD 0 = false)) ∧
    (HasValue F (op .rmm).1 v → ∀ x w, HasValue F x w →
      |v - q| ≤ |w - q| ∧ (w ≠ v → |v - q| = |w - q| → |w| < |v|))

/-- R137, R138, R143: for every operation of the IEEE instance on finite operands with exact result `q`, in every mode: an
overflow gives what R138 says with OF and NX; every other result is finite, has the sign of `q` when `q` is not zero, and
sets NX exactly when it differs from `q`, and UF exactly when it does and is tiny after rounding; no other flag. -/
def Obligations.OverflowAndUnderflow : Prop :=
  ∀ (F : Fmt) (op : RoundingMode → BitVec F.width × FFlags) (q : ℝ), ExactResult F op q → ∀ mode : RoundingMode,
    (Overflows F mode q → ∀ neg : Bool, (neg = true ↔ q < 0) → op mode = (overflowBits F mode neg, 0b00101)) ∧
    (¬ Overflows F mode q → ∃ v, HasValue F (op mode).1 v ∧ (q ≠ 0 → ((op mode).1.msb = true ↔ q < 0)) ∧
      (v = q → (op mode).2 = 0b00000) ∧ (v ≠ q → Tiny F mode q → (op mode).2 = 0b00011) ∧
      (v ≠ q → ¬ Tiny F mode q → (op mode).2 = 0b00001))

/-- R141 (c) to (f), R142, R146, R147, R222, R245, R246: the operations of the IEEE instance on infinities and zeros, row
by row, with their flags: sums and exact zero sums, differences, products, quotients, roots, fused operations and
conversions. -/
def Obligations.SpecialOperands : Prop :=
  ∀ (F : Fmt) (mode : RoundingMode) (a b c : BitVec F.width) (sa sb : Bool) (u v w : ℝ),
    -- a + b
    (ieee754.add F mode (infBits F sa) (infBits F sb) = if sa = sb then (infBits F sa, 0) else (nanBits F, 0x10)) ∧
    (HasValue F b v → ieee754.add F mode (infBits F sa) b = (infBits F sa, 0) ∧
      ieee754.add F mode b (infBits F sa) = (infBits F sa, 0)) ∧
    (ieee754.add F mode (zeroBits F sa) (zeroBits F sb) =
      (zeroBits F (if sa = sb then sa else decide (mode = .rdn)), 0)) ∧
    (HasValue F a u → HasValue F b v → u ≠ 0 → u + v = 0 →
      ieee754.add F mode a b = (zeroBits F (decide (mode = .rdn)), 0)) ∧
    -- a - b
    ieee754.sub F mode a b = ieee754.add F mode a (b ^^^ signBit F) ∧
    -- a × b
    ieee754.mul F mode (infBits F sa) (infBits F sb) = (infBits F (sa ^^ sb), 0) ∧
    (HasValue F b v → v ≠ 0 → ieee754.mul F mode (infBits F sa) b = (infBits F (sa ^^ b.msb), 0) ∧
      ieee754.mul F mode b (infBits F sa) = (infBits F (sa ^^ b.msb), 0)) ∧
    ieee754.mul F mode (infBits F sa) (zeroBits F sb) = (nanBits F, 0x10) ∧
    ieee754.mul F mode (zeroBits F sb) (infBits F sa) = (nanBits F, 0x10) ∧
    (HasValue F b v → ieee754.mul F mode (zeroBits F sa) b = (zeroBits F (sa ^^ b.msb), 0) ∧
      ieee754.mul F mode b (zeroBits F sa) = (zeroBits F (sa ^^ b.msb), 0)) ∧
    -- a / b
    ieee754.div F mode (infBits F sa) (infBits F sb) = (nanBits F, 0x10) ∧
    ieee754.div F mode (zeroBits F sa) (zeroBits F sb) = (nanBits F, 0x10) ∧
    (HasValue F b v → ieee754.div F mode (infBits F sa) b = (infBits F (sa ^^ b.msb), 0) ∧
      ieee754.div F mode b (infBits F sa) = (zeroBits F (sa ^^ b.msb), 0)) ∧
    (HasValue F b v → v ≠ 0 → ieee754.div F mode b (zeroBits F sa) = (infBits F (sa ^^ b.msb), 0x08) ∧
      ieee754.div F mode (zeroBits F sa) b = (zeroBits F (sa ^^ b.msb), 0)) ∧
    -- sqrt a
    ieee754.sqrt F mode (infBits F false) = (infBits F false, 0) ∧
    ieee754.sqrt F mode (infBits F true) = (nanBits F, 0x10) ∧
    ieee754.sqrt F mode (zeroBits F sa) = (zeroBits F sa, 0) ∧
    (HasValue F a u → u < 0 → ieee754.sqrt F mode a = (nanBits F, 0x10)) ∧
    -- a × b + c
    (ieee754.fma F mode (infBits F sa) (zeroBits F sb) c = (nanBits F, 0x10) ∧
      ieee754.fma F mode (zeroBits F sb) (infBits F sa) c = (nanBits F, 0x10)) ∧
    (b = infBits F b.msb ∨ (HasValue F b v ∧ v ≠ 0) → (fpVal F c).isNan = false → ∀ r,
      r = (if c = infBits F (!(sa ^^ b.msb)) then (nanBits F, 0x10) else (infBits F (sa ^^ b.msb), 0)) →
      ieee754.fma F mode (infBits F sa) b c = r ∧ ieee754.fma F mode b (infBits F sa) c = r) ∧
    (HasValue F a u → HasValue F b v → ieee754.fma F mode a b (infBits F sa) = (infBits F sa, 0)) ∧
    (HasValue F a u → HasValue F b v → HasValue F c w → u * v + w = 0 →
      ieee754.fma F mode a b c =
        (zeroBits F (if u * v = 0 ∧ (a.msb ^^ b.msb) = c.msb then c.msb else decide (mode = .rdn)), 0)) ∧
    -- conversions
    ieee754.fromInt F mode 0 = (zeroBits F false, 0) ∧
    ieee754.narrow mode (infBits .double sa) = (infBits .single sa, 0) ∧
    ieee754.narrow mode (zeroBits .double sa) = (zeroBits .single sa, 0) ∧
    ieee754.widen (infBits .single sa) = (infBits .double sa, 0) ∧
    ieee754.widen (zeroBits .single sa) = (zeroBits .double sa, 0)

/-- R141 (a) (b), R148, R200: the order of the compares is that of the rationals for finite values, with minus infinity
below and plus infinity above them and no NaN related to anything, itself included. On a NaN equality sets NV only when an
operand is signaling, the other two always; without a NaN no flag is set. -/
def Obligations.CompareOrder : Prop :=
  ∀ (F : Fmt) (a b : BitVec F.width),
    ((fpVal F a).isNan = true ∨ (fpVal F b).isNan = true →
      fpCompare F .eq a b =
        (false, if fpVal F a = .nan true ∨ fpVal F b = .nan true then 0x10 else 0x00) ∧
      fpCompare F .lt a b = (false, 0x10) ∧ fpCompare F .le a b = (false, 0x10)) ∧
    ((fpVal F a).isNan = false → (fpVal F b).isNan = false → ∀ rel, (fpCompare F rel a b).2 = 0x00) ∧
    ((fpVal F a).isFinite = true → (fpVal F b).isFinite = true →
      (fpCompare F .eq a b).1 = decide ((fpVal F a).toRat = (fpVal F b).toRat) ∧
      (fpCompare F .lt a b).1 = decide ((fpVal F a).toRat < (fpVal F b).toRat) ∧
      (fpCompare F .le a b).1 = decide ((fpVal F a).toRat ≤ (fpVal F b).toRat)) ∧
    (∀ sa sb, fpVal F a = .inf sa → fpVal F b = .inf sb →
      (fpCompare F .eq a b).1 = (sa == sb) ∧ (fpCompare F .lt a b).1 = (sa && !sb) ∧
      (fpCompare F .le a b).1 = (sa || !sb)) ∧
    (∀ sa, fpVal F a = .inf sa → (fpVal F b).isFinite = true →
      (fpCompare F .eq a b).1 = false ∧ (fpCompare F .lt a b).1 = sa ∧ (fpCompare F .le a b).1 = sa) ∧
    (∀ sb, (fpVal F a).isFinite = true → fpVal F b = .inf sb →
      (fpCompare F .eq a b).1 = false ∧ (fpCompare F .lt a b).1 = !sb ∧ (fpCompare F .le a b).1 = !sb)

/-- R141 (a), R186: of two operands that are not NaN, the minimum is one that the other is not below and the maximum one
that is not below the other, copied bit for bit, with minus zero below plus zero; of a NaN and a number, it is the number,
of two NaNs the canonical one. NV is set exactly when an operand is a signaling NaN, and no other flag. -/
def Obligations.MinMaxPicksAnOperand : Prop :=
  ∀ (F : Fmt) (isMax : Bool) (a b r : BitVec F.width), r = (fpMinMax F isMax a b).1 →
    ((fpMinMax F isMax a b).2 = if fpVal F a = .nan true ∨ fpVal F b = .nan true then 0x10 else 0x00) ∧
    ((fpVal F a).isNan = false → (fpVal F b).isNan = false →
      (r = a ∨ r = b) ∧
      (isMax = false → valLt (fpVal F a) (fpVal F r) = false ∧ valLt (fpVal F b) (fpVal F r) = false) ∧
      (isMax = true → valLt (fpVal F r) (fpVal F a) = false ∧ valLt (fpVal F r) (fpVal F b) = false) ∧
      (a = zeroBits F true → b = zeroBits F false → r = zeroBits F (!isMax)) ∧
      (a = zeroBits F false → b = zeroBits F true → r = zeroBits F (!isMax))) ∧
    ((fpVal F a).isNan = true → (fpVal F b).isNan = false → r = b) ∧
    ((fpVal F a).isNan = false → (fpVal F b).isNan = true → r = a) ∧
    ((fpVal F a).isNan = true → (fpVal F b).isNan = true → r = nanBits F)

/-- R133, R145: an operation of the IEEE instance with a NaN operand gives the canonical NaN, with NV for a signaling operand (for the fused
operation also for infinity times zero) and no other flag. -/
def Obligations.NanOperandsGiveTheCanonicalNan : Prop :=
  (∀ (F : Fmt) (mode : RoundingMode) (a b c : BitVec F.width),
    ((fpVal F a).isNan = true ∨ (fpVal F b).isNan = true →
      ∀ r, r = (nanBits F, flagIf ((fpVal F a).isSignaling || (fpVal F b).isSignaling) flagNV) →
        ieee754.add F mode a b = r ∧ ieee754.sub F mode a b = r ∧ ieee754.mul F mode a b = r ∧ ieee754.div F mode a b = r) ∧
    ((fpVal F a).isNan = true → ieee754.sqrt F mode a = (nanBits F, flagIf (fpVal F a).isSignaling flagNV)) ∧
    ((fpVal F a).isNan = true ∨ (fpVal F b).isNan = true ∨ (fpVal F c).isNan = true →
      ieee754.fma F mode a b c = (nanBits F, flagIf ((fpVal F a).isSignaling || (fpVal F b).isSignaling ||
        (fpVal F c).isSignaling || infTimesZero (fpVal F a) (fpVal F b)) flagNV))) ∧
  (∀ (mode : RoundingMode) (a : BitVec 64), (fpVal .double a).isNan = true →
    ieee754.narrow mode a = (nanBits .single, flagIf (fpVal .double a).isSignaling flagNV)) ∧
  (∀ a : BitVec 32, (fpVal .single a).isNan = true →
    ieee754.widen a = (nanBits .double, flagIf (fpVal .single a).isSignaling flagNV))

/-- R139, R220: the conversion of a pattern to an integer of 32 or 64 bits, signed or not. The exact value rounded as the
mode says, with NX when it is not the exact value; out of range, and for an infinity, the nearest bound with NV; for a NaN
the upper bound with NV. -/
def Obligations.IntegerResultsAreRoundedOrSaturated : Prop :=
  ∀ (F : Fmt) (mode : RoundingMode) (a : BitVec F.width) (n : Nat) (signed : Bool) (lo hi : Int),
    n = 32 ∨ n = 64 → lo = (if signed then -2 ^ (n - 1) else 0) → hi = (if signed then 2 ^ (n - 1) - 1 else 2 ^ n - 1) →
    ((fpVal F a).isNan = true ∨ fpVal F a = .inf false → ieee754.toInt F mode a n signed = (BitVec.ofInt n hi, flagNV)) ∧
    (fpVal F a = .inf true → ieee754.toInt F mode a n signed = (BitVec.ofInt n lo, flagNV)) ∧
    ((fpVal F a).isFinite = true → ∀ i : Int, RoundsTo mode (fpVal F a).toRat i →
      (hi < i → ieee754.toInt F mode a n signed = (BitVec.ofInt n hi, flagNV)) ∧
      (i < lo → ieee754.toInt F mode a n signed = (BitVec.ofInt n lo, flagNV)) ∧
      (lo ≤ i → i ≤ hi →
        ieee754.toInt F mode a n signed = (BitVec.ofInt n i, if (i : ℚ) = (fpVal F a).toRat then flagNone else flagNX)))

/-- R143: in every operation of the IEEE instance OF and UF come with NX, and NV and DZ come with none of the three. -/
def Obligations.FlagsComeTogether : Prop :=
  ∀ (F : Fmt) (mode : RoundingMode) (a b c : BitVec F.width),
    FlagsTogether (ieee754.add F mode a b).2 ∧ FlagsTogether (ieee754.sub F mode a b).2 ∧ FlagsTogether (ieee754.mul F mode a b).2 ∧
    FlagsTogether (ieee754.div F mode a b).2 ∧ FlagsTogether (ieee754.sqrt F mode a).2 ∧ FlagsTogether (ieee754.fma F mode a b c).2 ∧
    (∀ isMax, FlagsTogether (fpMinMax F isMax a b).2) ∧ (∀ rel, FlagsTogether (fpCompare F rel a b).2) ∧
    (∀ n signed, FlagsTogether (ieee754.toInt F mode a n signed).2) ∧ (∀ n, FlagsTogether (ieee754.fromInt F mode n).2) ∧
    (∀ d, FlagsTogether (ieee754.narrow mode d).2) ∧ (∀ f, FlagsTogether (ieee754.widen f).2)

/-- R220, R222, R245, R246: a 32-bit integer, signed or not, converted to double in any mode and back in any mode is
itself, a single that is not a NaN, widened and narrowed in any mode, is itself, and no conversion of these sets a flag. -/
def Obligations.ExactConversionsRoundTrip : Prop :=
  (∀ (m m' : RoundingMode) (n : BitVec 32),
    (ieee754.fromInt .double m n.toInt).2 = flagNone ∧ (ieee754.fromInt .double m n.toNat).2 = flagNone ∧
    ieee754.toInt .double m' (ieee754.fromInt .double m n.toInt).1 32 true = (n, flagNone) ∧
    ieee754.toInt .double m' (ieee754.fromInt .double m n.toNat).1 32 false = (n, flagNone)) ∧
  (∀ (mode : RoundingMode) (a : BitVec 32), (fpVal .single a).isNan = false →
    (ieee754.widen a).2 = flagNone ∧ ieee754.narrow mode (ieee754.widen a).1 = (a, flagNone))

/-! ### Control and status registers -/

/-- R30 to R39, R103, R300, R303: a CSR instruction `csrrw` that passes the checks puts the old value, as the read column of
the table of R303 gives it, in `x[rd]` and writes `x[rs1]` to the register as the write column says. The eight numbers are
spelled out in `csrNumbers`. The place of `UXL` in `mstatus` is presumed (PRESUMED, log 19). That `mcause`, `mtval` and
`mtvec` are there under the terminal trap option too is the model's choice (DESIGN CHOICE, log 35: R377 drops them). -/
def Obligations.CsrrwCompletes : Prop :=
  ∀ (s : State) (rd rs1 : XReg) (n : BitVec 12) (r : Csr), CsrAllowed s n r →
    ∃ t old, exec (.csrrw rd rs1 n) s = .next t ∧ CsrReads s old r ∧ WroteXReg rd old s t ∧
      CsrWritten r (readX s rs1) s t ∧ readPc t = nextPc s

/-- R30 to R39, R103, R301, R303: `csrrs` that passes the checks puts the old value, as the read column of the table of
R303 gives it, in `x[rd]` and, unless `rs1` is `x0`, writes the old value with the bits of `x[rs1]` set; with `rs1` = `x0`
it writes nothing. The place of `UXL` in `mstatus` is presumed (PRESUMED, log 19). That `mcause`, `mtval` and `mtvec` are
there under the terminal trap option too is the model's choice (DESIGN CHOICE, log 35: R377 drops them). -/
def Obligations.CsrrsCompletes : Prop :=
  ∀ (s : State) (rd rs1 : XReg) (n : BitVec 12) (r : Csr), CsrAllowed s n r →
    ∃ t old, exec (.csrrs rd rs1 n) s = .next t ∧ CsrReads s old r ∧ WroteXReg rd old s t ∧ readPc t = nextPc s ∧
      (rs1 ≠ 0 → CsrWritten r (old ||| readX s rs1) s t) ∧ (rs1 = 0 → CsrUntouched (FpCsr r) s t)

/-- R40, R42, R303: a CSR number other than the eight is refused; a machine-level CSR from user mode is illegal, with the
instruction's word as trap value. That `mcause`, `mtval` and `mtvec` are among the eight under the terminal trap option too
is the model's choice (DESIGN CHOICE, log 35: R377 drops them). -/
def Obligations.CsrChecks : Prop :=
  ∀ (s : State) (i : Instr) (rd rs1 : XReg) (n : BitVec 12), i = .csrrw rd rs1 n ∨ i = .csrrs rd rs1 n →
    (n ∉ [0x001, 0x002, 0x003, 0x300, 0x305, 0x341, 0x342, 0x343] → exec i s = .refused (.unmodelledCsr n)) ∧
    (n ∈ [0x300, 0x305, 0x341, 0x342, 0x343] → s.priv = .user →
      exec i s = raise .illegalInstruction ((encode i).setWidth 64) s)

/-- R33: `fflags`, `frm` and `fcsr` are three names for one piece of state. -/
def Obligations.FcsrHasThreeNames : Prop :=
  ∀ (s : State) (v : Word),
    ((csrRead (csrWrite .fflags v s) .fcsr).extractLsb' 0 5 = v.extractLsb' 0 5 ∧
      (csrRead (csrWrite .fflags v s) .fcsr).extractLsb' 5 3 = (csrRead s .fcsr).extractLsb' 5 3) ∧
    ((csrRead (csrWrite .frm v s) .fcsr).extractLsb' 5 3 = v.extractLsb' 0 3 ∧
      (csrRead (csrWrite .frm v s) .fcsr).extractLsb' 0 5 = (csrRead s .fcsr).extractLsb' 0 5) ∧
    (csrRead (csrWrite .fcsr v s) .fflags = (v.extractLsb' 0 5).setWidth 64 ∧
      csrRead (csrWrite .fcsr v s) .frm = (v.extractLsb' 5 3).setWidth 64)

/-! ### The machine as a whole -/

/-- R31, R140: no instruction but a `csrrw` to `fflags` or `fcsr` clears a flag. -/
def Obligations.FlagsAreSticky : Prop :=
  ∀ (i : Instr) (s t : State), exec i s = .next t →
    (∀ rd rs1 n, i = .csrrw rd rs1 n → n ≠ 0x001 ∧ n ≠ 0x003) →
    fcsrFlags s.fcsr &&& fcsrFlags t.fcsr = fcsrFlags s.fcsr

/-- R142, with the IEEE numerics of the default configuration (R7): DZ is set only by `fdiv.s` or `fdiv.d` of a finite dividend that is not zero by a zero (or by software through a
CSR instruction), and the result of these is the infinity of the exclusive or of the signs with DZ alone. -/
def Obligations.OnlyDivisionByZeroSetsDz : Prop :=
  (∀ (s : State) (rd rs1 rs2 : FReg) (rm : BitVec 3) (mode : RoundingMode) (sa sb : Bool) (ma : Nat) (ea eb : Int),
    s.cfg.numerics = .ieee754 → s.mstatus.fs ≠ 0 → resolveRm rm (fcsrFrm s.fcsr) = some mode → ma ≠ 0 →
    (fpVal .single (readFS s rs1) = .fin sa ma ea → fpVal .single (readFS s rs2) = .fin sb 0 eb →
      CompletesFS (.fdivS rd rs1 rs2 rm) rd (infBits .single (sa ^^ sb), 0x08) s) ∧
    (s.cfg.hasD = true → fpVal .double (readFD s rs1) = .fin sa ma ea → fpVal .double (readFD s rs2) = .fin sb 0 eb →
      CompletesFD (.fdivD rd rs1 rs2 rm) rd (infBits .double (sa ^^ sb), 0x08) s)) ∧
  (∀ (i : Instr) (s t : State), s.cfg.numerics = .ieee754 → exec i s = .next t → s.fcsr.getLsbD 3 = false → t.fcsr.getLsbD 3 = true →
    (∃ rd rs1 n, i = .csrrw rd rs1 n ∨ i = .csrrs rd rs1 n) ∨
    (∃ rd rs1 rs2 rm, i = .fdivS rd rs1 rs2 rm ∧
      ∃ sa ma ea sb eb, fpVal .single (readFS s rs1) = .fin sa ma ea ∧ ma ≠ 0 ∧
        fpVal .single (readFS s rs2) = .fin sb 0 eb) ∨
    (∃ rd rs1 rs2 rm, i = .fdivD rd rs1 rs2 rm ∧
      ∃ sa ma ea sb eb, fpVal .double (readFD s rs1) = .fin sa ma ea ∧ ma ≠ 0 ∧
        fpVal .double (readFD s rs2) = .fin sb 0 eb))

/-- R144: the instructions that never set a flag, those that can set only NV, and those that can set only NX. The
conversions among them round with the IEEE numerics of the default configuration (R7). -/
def Obligations.FlagsAnInstructionCanSet : Prop :=
  ∀ (i : Instr) (s t : State) (rd rs1 rs2 : BitVec 5) (imm : BitVec 12) (rm : BitVec 3), exec i s = .next t →
    (i ∈ [.flw rd rs1 imm, .fld rd rs1 imm, .fsw rs2 rs1 imm, .fsd rs2 rs1 imm, .fsgnjS rd rs1 rs2,
        .fsgnjD rd rs1 rs2, .fsgnjnS rd rs1 rs2, .fsgnjnD rd rs1 rs2, .fsgnjxS rd rs1 rs2, .fsgnjxD rd rs1 rs2,
        .fmvXW rd rs1, .fmvWX rd rs1, .fmvXD rd rs1, .fmvDX rd rs1, .fclassS rd rs1, .fclassD rd rs1] ∨
      (s.cfg.numerics = .ieee754 ∧ i ∈ [.fcvtDW rd rs1 rm, .fcvtDWu rd rs1 rm]) →
      fcsrFlags t.fcsr = fcsrFlags s.fcsr) ∧
    (i ∈ [.feqS rd rs1 rs2, .feqD rd rs1 rs2, .fltS rd rs1 rs2, .fltD rd rs1 rs2, .fleS rd rs1 rs2, .fleD rd rs1 rs2,
        .fminS rd rs1 rs2, .fminD rd rs1 rs2, .fmaxS rd rs1 rs2, .fmaxD rd rs1 rs2] ∨
      (s.cfg.numerics = .ieee754 ∧ i = .fcvtDS rd rs1 rm) →
      fcsrFlags t.fcsr ||| 0b10000#5 = fcsrFlags s.fcsr ||| 0b10000#5) ∧
    (s.cfg.numerics = .ieee754 →
      i ∈ [.fcvtSW rd rs1 rm, .fcvtSWu rd rs1 rm, .fcvtSL rd rs1 rm, .fcvtSLu rd rs1 rm, .fcvtDL rd rs1 rm,
        .fcvtDLu rd rs1 rm] → fcsrFlags t.fcsr ||| 0b00001#5 = fcsrFlags s.fcsr ||| 0b00001#5)

/-- R48, R68, R80: no step changes the configuration, and no step changes a byte of `CODE`. -/
def Obligations.CodeNeverChanges : Prop :=
  ∀ s t : State, step s = .next t →
    t.cfg = s.cfg ∧ ∀ n, codeAt s.cfg n = true → memByte t.mem n = memByte s.mem n

/-- R385, R345: the only step that leaves machine mode is an `mret` with `MPP` 0. -/
def Obligations.OnlyMretLeavesMachineMode : Prop :=
  ∀ s t : State, step s = .next t → s.priv = .machine → t.priv = .user →
    fetch s = .word 0x30200073 ∧ s.mstatus.mpp = .user

/-- R42, R385, R386: a step taken in user mode either stays in user mode and changes no machine-mode register, or is the
entry of an exception (R372). -/
def Obligations.UserModeIsConfined : Prop :=
  ∀ s t : State, step s = .next t → s.priv = .user →
    (t.priv = .user ∧ t.mepc = s.mepc ∧ t.mcause = s.mcause ∧ t.mtval = s.mtval ∧ t.mtvec = s.mtvec ∧
      SameMstatusButFs s t) ∨
    ∃ e tv, Trapped e tv s t

/-- R21, R26, R35, R38, R39, R45, R64: every step keeps the invariant of the machine, from every state that has it. -/
def Obligations.StepKeepsInv : Prop :=
  ∀ s t : State, Inv s → step s = .next t → Inv t

/-- R50, R400: the invariant holds after reset, in every well-formed configuration (R7: `RESET_PC` is 4-byte aligned).
What the spec leaves unspecified at reset holds the values of logs 8 to 11 (DESIGN CHOICE). -/
def Obligations.ResetHasInv : Prop :=
  Inv State.reset ∧ ∀ c : Config, c.wellFormed = true → Inv (State.resetWith c)
end

