-- ==== Sys2Proof/Laws/Encoding.lean ====
section
/-! SUPPORT. The fields of a word that the encoder has put together (R91 to R102). -/

namespace Sys2Proof

/-- The low part of an append. -/
theorem extract_append_low {v w lo len : Nat} (a : BitVec v) (b : BitVec w) (h : lo + len ≤ w) :
    (a ++ b).extractLsb' lo len = b.extractLsb' lo len := by
  ext k hk
  simp only [BitVec.getElem_extractLsb', BitVec.getLsbD_append]
  rw [if_pos (by omega)]

/-- The high part of an append. -/
theorem extract_append_high {v w lo len : Nat} (a : BitVec v) (b : BitVec w) (h : w ≤ lo) :
    (a ++ b).extractLsb' lo len = a.extractLsb' (lo - w) len := by
  ext k hk
  simp only [BitVec.getElem_extractLsb', BitVec.getLsbD_append]
  rw [if_neg (by omega)]
  congr 1; omega

theorem extract_all {w : Nat} (a : BitVec w) : a.extractLsb' 0 w = a := by
  ext k hk; simp

/-- Two neighbouring fields put together again. -/
theorem extract_join {w lo n m : Nat} (a : BitVec w) :
    a.extractLsb' (lo + m) n ++ a.extractLsb' lo m = a.extractLsb' lo (n + m) := by
  apply BitVec.eq_of_getLsbD_eq
  intro k hk
  simp only [BitVec.getLsbD_append, BitVec.getLsbD_extractLsb']
  by_cases h : k < m
  · have : k < n + m := by omega
    simp [h, this]
  · have h1 : k - m < n := by omega
    have h2 : k < n + m := hk
    have h3 : lo + m + (k - m) = lo + k := by omega
    simp [h, h1, h2, h3]

theorem aqOf_eq_field (w : Insn) : aqOf w = (w.extractLsb' 26 1).getLsbD 0 := by simp [aqOf]

theorem rlOf_eq_field (w : Insn) : rlOf w = (w.extractLsb' 25 1).getLsbD 0 := by simp [rlOf]

section fields
variable (f7 : BitVec 7) (f5 rs3 rs2 rs1 rd : BitVec 5) (f3 : BitVec 3) (f2 : BitVec 2) (op : BitVec 7)
  (imm : BitVec 12) (off u : BitVec 20) (fm pr su : BitVec 4) (aq rl : Bool)

@[simp] theorem opcodeOf_encR : opcodeOf (encR f7 rs2 rs1 f3 rd op) = op :=
    (extract_append_low (f7 ++ rs2 ++ rs1 ++ f3 ++ rd) op (by norm_num)).trans (extract_all op)
@[simp] theorem rdOf_encR : rdOf (encR f7 rs2 rs1 f3 rd op) = rd :=
    (extract_append_high (f7 ++ rs2 ++ rs1 ++ f3 ++ rd) op (by norm_num)).trans ((extract_append_low (f7 ++ rs2 ++
      rs1 ++ f3) rd (by norm_num)).trans (extract_all rd))
@[simp] theorem rmOf_encR : rmOf (encR f7 rs2 rs1 f3 rd op) = f3 :=
    (extract_append_high (f7 ++ rs2 ++ rs1 ++ f3 ++ rd) op (by norm_num)).trans ((extract_append_high (f7 ++ rs2 ++
      rs1 ++ f3) rd (by norm_num)).trans ((extract_append_low (f7 ++ rs2 ++ rs1) f3 (by norm_num)).trans
      (extract_all f3)))
@[simp] theorem rs1Of_encR : rs1Of (encR f7 rs2 rs1 f3 rd op) = rs1 :=
    (extract_append_high (f7 ++ rs2 ++ rs1 ++ f3 ++ rd) op (by norm_num)).trans ((extract_append_high (f7 ++ rs2 ++
      rs1 ++ f3) rd (by norm_num)).trans ((extract_append_high (f7 ++ rs2 ++ rs1) f3 (by norm_num)).trans
      ((extract_append_low (f7 ++ rs2) rs1 (by norm_num)).trans (extract_all rs1))))
@[simp] theorem rs2Of_encR : rs2Of (encR f7 rs2 rs1 f3 rd op) = rs2 :=
    (extract_append_high (f7 ++ rs2 ++ rs1 ++ f3 ++ rd) op (by norm_num)).trans ((extract_append_high (f7 ++ rs2 ++
      rs1 ++ f3) rd (by norm_num)).trans ((extract_append_high (f7 ++ rs2 ++ rs1) f3 (by norm_num)).trans
      ((extract_append_high (f7 ++ rs2) rs1 (by norm_num)).trans ((extract_append_low f7 rs2 (by norm_num)).trans
      (extract_all rs2)))))
@[simp] theorem field_25_7_encR : BitVec.extractLsb' 25 7 (encR f7 rs2 rs1 f3 rd op) = f7 :=
    (extract_append_high (f7 ++ rs2 ++ rs1 ++ f3 ++ rd) op (by norm_num)).trans ((extract_append_high (f7 ++ rs2 ++
      rs1 ++ f3) rd (by norm_num)).trans ((extract_append_high (f7 ++ rs2 ++ rs1) f3 (by norm_num)).trans
      ((extract_append_high (f7 ++ rs2) rs1 (by norm_num)).trans ((extract_append_high f7 rs2 (by norm_num)).trans
      (extract_all f7)))))
@[simp] theorem opcodeOf_encR4 : opcodeOf (encR4 rs3 f2 rs2 rs1 f3 rd op) = op :=
    (extract_append_low (rs3 ++ f2 ++ rs2 ++ rs1 ++ f3 ++ rd) op (by norm_num)).trans (extract_all op)
@[simp] theorem rdOf_encR4 : rdOf (encR4 rs3 f2 rs2 rs1 f3 rd op) = rd :=
    (extract_append_high (rs3 ++ f2 ++ rs2 ++ rs1 ++ f3 ++ rd) op (by norm_num)).trans ((extract_append_low (rs3 ++
      f2 ++ rs2 ++ rs1 ++ f3) rd (by norm_num)).trans (extract_all rd))
@[simp] theorem rmOf_encR4 : rmOf (encR4 rs3 f2 rs2 rs1 f3 rd op) = f3 :=
    (extract_append_high (rs3 ++ f2 ++ rs2 ++ rs1 ++ f3 ++ rd) op (by norm_num)).trans ((extract_append_high (rs3 ++
      f2 ++ rs2 ++ rs1 ++ f3) rd (by norm_num)).trans ((extract_append_low (rs3 ++ f2 ++ rs2 ++ rs1) f3 (by
      norm_num)).trans (extract_all f3)))
@[simp] theorem rs1Of_encR4 : rs1Of (encR4 rs3 f2 rs2 rs1 f3 rd op) = rs1 :=
    (extract_append_high (rs3 ++ f2 ++ rs2 ++ rs1 ++ f3 ++ rd) op (by norm_num)).trans ((extract_append_high (rs3 ++
      f2 ++ rs2 ++ rs1 ++ f3) rd (by norm_num)).trans ((extract_append_high (rs3 ++ f2 ++ rs2 ++ rs1) f3 (by
      norm_num)).trans ((extract_append_low (rs3 ++ f2 ++ rs2) rs1 (by norm_num)).trans (extract_all rs1))))
@[simp] theorem rs2Of_encR4 : rs2Of (encR4 rs3 f2 rs2 rs1 f3 rd op) = rs2 :=
    (extract_append_high (rs3 ++ f2 ++ rs2 ++ rs1 ++ f3 ++ rd) op (by norm_num)).trans ((extract_append_high (rs3 ++
      f2 ++ rs2 ++ rs1 ++ f3) rd (by norm_num)).trans ((extract_append_high (rs3 ++ f2 ++ rs2 ++ rs1) f3 (by
      norm_num)).trans ((extract_append_high (rs3 ++ f2 ++ rs2) rs1 (by norm_num)).trans ((extract_append_low (rs3
      ++ f2) rs2 (by norm_num)).trans (extract_all rs2)))))
@[simp] theorem rs3Of_encR4 : rs3Of (encR4 rs3 f2 rs2 rs1 f3 rd op) = rs3 :=
    (extract_append_high (rs3 ++ f2 ++ rs2 ++ rs1 ++ f3 ++ rd) op (by norm_num)).trans ((extract_append_high (rs3 ++
      f2 ++ rs2 ++ rs1 ++ f3) rd (by norm_num)).trans ((extract_append_high (rs3 ++ f2 ++ rs2 ++ rs1) f3 (by
      norm_num)).trans ((extract_append_high (rs3 ++ f2 ++ rs2) rs1 (by norm_num)).trans ((extract_append_high (rs3
      ++ f2) rs2 (by norm_num)).trans ((extract_append_high rs3 f2 (by norm_num)).trans (extract_all rs3))))))
@[simp] theorem field_25_2_encR4 : BitVec.extractLsb' 25 2 (encR4 rs3 f2 rs2 rs1 f3 rd op) = f2 :=
    (extract_append_high (rs3 ++ f2 ++ rs2 ++ rs1 ++ f3 ++ rd) op (by norm_num)).trans ((extract_append_high (rs3 ++
      f2 ++ rs2 ++ rs1 ++ f3) rd (by norm_num)).trans ((extract_append_high (rs3 ++ f2 ++ rs2 ++ rs1) f3 (by
      norm_num)).trans ((extract_append_high (rs3 ++ f2 ++ rs2) rs1 (by norm_num)).trans ((extract_append_high (rs3
      ++ f2) rs2 (by norm_num)).trans ((extract_append_low rs3 f2 (by norm_num)).trans (extract_all f2))))))
@[simp] theorem opcodeOf_encI : opcodeOf (encI imm rs1 f3 rd op) = op :=
    (extract_append_low (imm ++ rs1 ++ f3 ++ rd) op (by norm_num)).trans (extract_all op)
@[simp] theorem rdOf_encI : rdOf (encI imm rs1 f3 rd op) = rd :=
    (extract_append_high (imm ++ rs1 ++ f3 ++ rd) op (by norm_num)).trans ((extract_append_low (imm ++ rs1 ++ f3) rd
      (by norm_num)).trans (extract_all rd))
@[simp] theorem rmOf_encI : rmOf (encI imm rs1 f3 rd op) = f3 :=
    (extract_append_high (imm ++ rs1 ++ f3 ++ rd) op (by norm_num)).trans ((extract_append_high (imm ++ rs1 ++ f3)
      rd (by norm_num)).trans ((extract_append_low (imm ++ rs1) f3 (by norm_num)).trans (extract_all f3)))
@[simp] theorem rs1Of_encI : rs1Of (encI imm rs1 f3 rd op) = rs1 :=
    (extract_append_high (imm ++ rs1 ++ f3 ++ rd) op (by norm_num)).trans ((extract_append_high (imm ++ rs1 ++ f3)
      rd (by norm_num)).trans ((extract_append_high (imm ++ rs1) f3 (by norm_num)).trans ((extract_append_low imm
      rs1 (by norm_num)).trans (extract_all rs1))))
@[simp] theorem iImmOf_encI : iImmOf (encI imm rs1 f3 rd op) = imm :=
    (extract_append_high (imm ++ rs1 ++ f3 ++ rd) op (by norm_num)).trans ((extract_append_high (imm ++ rs1 ++ f3)
      rd (by norm_num)).trans ((extract_append_high (imm ++ rs1) f3 (by norm_num)).trans ((extract_append_high imm
      rs1 (by norm_num)).trans (extract_all imm))))
@[simp] theorem opcodeOf_encFence : opcodeOf (encFence fm pr su rs1 f3 rd op) = op :=
    (extract_append_low (fm ++ pr ++ su ++ rs1 ++ f3 ++ rd) op (by norm_num)).trans (extract_all op)
@[simp] theorem rdOf_encFence : rdOf (encFence fm pr su rs1 f3 rd op) = rd :=
    (extract_append_high (fm ++ pr ++ su ++ rs1 ++ f3 ++ rd) op (by norm_num)).trans ((extract_append_low (fm ++ pr
      ++ su ++ rs1 ++ f3) rd (by norm_num)).trans (extract_all rd))
@[simp] theorem rmOf_encFence : rmOf (encFence fm pr su rs1 f3 rd op) = f3 :=
    (extract_append_high (fm ++ pr ++ su ++ rs1 ++ f3 ++ rd) op (by norm_num)).trans ((extract_append_high (fm ++ pr
      ++ su ++ rs1 ++ f3) rd (by norm_num)).trans ((extract_append_low (fm ++ pr ++ su ++ rs1) f3 (by
      norm_num)).trans (extract_all f3)))
@[simp] theorem rs1Of_encFence : rs1Of (encFence fm pr su rs1 f3 rd op) = rs1 :=
    (extract_append_high (fm ++ pr ++ su ++ rs1 ++ f3 ++ rd) op (by norm_num)).trans ((extract_append_high (fm ++ pr
      ++ su ++ rs1 ++ f3) rd (by norm_num)).trans ((extract_append_high (fm ++ pr ++ su ++ rs1) f3 (by
      norm_num)).trans ((extract_append_low (fm ++ pr ++ su) rs1 (by norm_num)).trans (extract_all rs1))))
@[simp] theorem fmOf_encFence : fmOf (encFence fm pr su rs1 f3 rd op) = fm :=
    (extract_append_high (fm ++ pr ++ su ++ rs1 ++ f3 ++ rd) op (by norm_num)).trans ((extract_append_high (fm ++ pr
      ++ su ++ rs1 ++ f3) rd (by norm_num)).trans ((extract_append_high (fm ++ pr ++ su ++ rs1) f3 (by
      norm_num)).trans ((extract_append_high (fm ++ pr ++ su) rs1 (by norm_num)).trans ((extract_append_high (fm ++
      pr) su (by norm_num)).trans ((extract_append_high fm pr (by norm_num)).trans (extract_all fm))))))
@[simp] theorem predOf_encFence : predOf (encFence fm pr su rs1 f3 rd op) = pr :=
    (extract_append_high (fm ++ pr ++ su ++ rs1 ++ f3 ++ rd) op (by norm_num)).trans ((extract_append_high (fm ++ pr
      ++ su ++ rs1 ++ f3) rd (by norm_num)).trans ((extract_append_high (fm ++ pr ++ su ++ rs1) f3 (by
      norm_num)).trans ((extract_append_high (fm ++ pr ++ su) rs1 (by norm_num)).trans ((extract_append_high (fm ++
      pr) su (by norm_num)).trans ((extract_append_low fm pr (by norm_num)).trans (extract_all pr))))))
@[simp] theorem succOf_encFence : succOf (encFence fm pr su rs1 f3 rd op) = su :=
    (extract_append_high (fm ++ pr ++ su ++ rs1 ++ f3 ++ rd) op (by norm_num)).trans ((extract_append_high (fm ++ pr
      ++ su ++ rs1 ++ f3) rd (by norm_num)).trans ((extract_append_high (fm ++ pr ++ su ++ rs1) f3 (by
      norm_num)).trans ((extract_append_high (fm ++ pr ++ su) rs1 (by norm_num)).trans ((extract_append_low (fm ++
      pr) su (by norm_num)).trans (extract_all su)))))
@[simp] theorem opcodeOf_encS : opcodeOf (encS imm rs2 rs1 f3 op) = op :=
    (extract_append_low ((imm.extractLsb' 5 7) ++ rs2 ++ rs1 ++ f3 ++ (imm.extractLsb' 0 5)) op (by norm_num)).trans
      (extract_all op)
@[simp] theorem rmOf_encS : rmOf (encS imm rs2 rs1 f3 op) = f3 :=
    (extract_append_high ((imm.extractLsb' 5 7) ++ rs2 ++ rs1 ++ f3 ++ (imm.extractLsb' 0 5)) op (by
      norm_num)).trans ((extract_append_high ((imm.extractLsb' 5 7) ++ rs2 ++ rs1 ++ f3) (imm.extractLsb' 0 5) (by
      norm_num)).trans ((extract_append_low ((imm.extractLsb' 5 7) ++ rs2 ++ rs1) f3 (by norm_num)).trans
      (extract_all f3)))
@[simp] theorem rs1Of_encS : rs1Of (encS imm rs2 rs1 f3 op) = rs1 :=
    (extract_append_high ((imm.extractLsb' 5 7) ++ rs2 ++ rs1 ++ f3 ++ (imm.extractLsb' 0 5)) op (by
      norm_num)).trans ((extract_append_high ((imm.extractLsb' 5 7) ++ rs2 ++ rs1 ++ f3) (imm.extractLsb' 0 5) (by
      norm_num)).trans ((extract_append_high ((imm.extractLsb' 5 7) ++ rs2 ++ rs1) f3 (by norm_num)).trans
      ((extract_append_low ((imm.extractLsb' 5 7) ++ rs2) rs1 (by norm_num)).trans (extract_all rs1))))
@[simp] theorem rs2Of_encS : rs2Of (encS imm rs2 rs1 f3 op) = rs2 :=
    (extract_append_high ((imm.extractLsb' 5 7) ++ rs2 ++ rs1 ++ f3 ++ (imm.extractLsb' 0 5)) op (by
      norm_num)).trans ((extract_append_high ((imm.extractLsb' 5 7) ++ rs2 ++ rs1 ++ f3) (imm.extractLsb' 0 5) (by
      norm_num)).trans ((extract_append_high ((imm.extractLsb' 5 7) ++ rs2 ++ rs1) f3 (by norm_num)).trans
      ((extract_append_high ((imm.extractLsb' 5 7) ++ rs2) rs1 (by norm_num)).trans ((extract_append_low
      ((imm.extractLsb' 5 7)) rs2 (by norm_num)).trans (extract_all rs2)))))
@[simp] theorem field_25_7_encS : BitVec.extractLsb' 25 7 (encS imm rs2 rs1 f3 op) = imm.extractLsb' 5 7 :=
    (extract_append_high ((imm.extractLsb' 5 7) ++ rs2 ++ rs1 ++ f3 ++ (imm.extractLsb' 0 5)) op (by
      norm_num)).trans ((extract_append_high ((imm.extractLsb' 5 7) ++ rs2 ++ rs1 ++ f3) (imm.extractLsb' 0 5) (by
      norm_num)).trans ((extract_append_high ((imm.extractLsb' 5 7) ++ rs2 ++ rs1) f3 (by norm_num)).trans
      ((extract_append_high ((imm.extractLsb' 5 7) ++ rs2) rs1 (by norm_num)).trans ((extract_append_high
      ((imm.extractLsb' 5 7)) rs2 (by norm_num)).trans (extract_all (imm.extractLsb' 5 7))))))
@[simp] theorem field_7_5_encS : BitVec.extractLsb' 7 5 (encS imm rs2 rs1 f3 op) = imm.extractLsb' 0 5 :=
    (extract_append_high ((imm.extractLsb' 5 7) ++ rs2 ++ rs1 ++ f3 ++ (imm.extractLsb' 0 5)) op (by
      norm_num)).trans ((extract_append_low ((imm.extractLsb' 5 7) ++ rs2 ++ rs1 ++ f3) (imm.extractLsb' 0 5) (by
      norm_num)).trans (extract_all (imm.extractLsb' 0 5)))
@[simp] theorem opcodeOf_encA : opcodeOf (encA f5 aq rl rs2 rs1 f3 rd op) = op :=
    (extract_append_low (f5 ++ (BitVec.ofBool aq) ++ (BitVec.ofBool rl) ++ rs2 ++ rs1 ++ f3 ++ rd) op (by
      norm_num)).trans (extract_all op)
@[simp] theorem rdOf_encA : rdOf (encA f5 aq rl rs2 rs1 f3 rd op) = rd :=
    (extract_append_high (f5 ++ (BitVec.ofBool aq) ++ (BitVec.ofBool rl) ++ rs2 ++ rs1 ++ f3 ++ rd) op (by
      norm_num)).trans ((extract_append_low (f5 ++ (BitVec.ofBool aq) ++ (BitVec.ofBool rl) ++ rs2 ++ rs1 ++ f3) rd
      (by norm_num)).trans (extract_all rd))
@[simp] theorem rmOf_encA : rmOf (encA f5 aq rl rs2 rs1 f3 rd op) = f3 :=
    (extract_append_high (f5 ++ (BitVec.ofBool aq) ++ (BitVec.ofBool rl) ++ rs2 ++ rs1 ++ f3 ++ rd) op (by
      norm_num)).trans ((extract_append_high (f5 ++ (BitVec.ofBool aq) ++ (BitVec.ofBool rl) ++ rs2 ++ rs1 ++ f3) rd
      (by norm_num)).trans ((extract_append_low (f5 ++ (BitVec.ofBool aq) ++ (BitVec.ofBool rl) ++ rs2 ++ rs1) f3
      (by norm_num)).trans (extract_all f3)))
@[simp] theorem rs1Of_encA : rs1Of (encA f5 aq rl rs2 rs1 f3 rd op) = rs1 :=
    (extract_append_high (f5 ++ (BitVec.ofBool aq) ++ (BitVec.ofBool rl) ++ rs2 ++ rs1 ++ f3 ++ rd) op (by
      norm_num)).trans ((extract_append_high (f5 ++ (BitVec.ofBool aq) ++ (BitVec.ofBool rl) ++ rs2 ++ rs1 ++ f3) rd
      (by norm_num)).trans ((extract_append_high (f5 ++ (BitVec.ofBool aq) ++ (BitVec.ofBool rl) ++ rs2 ++ rs1) f3
      (by norm_num)).trans ((extract_append_low (f5 ++ (BitVec.ofBool aq) ++ (BitVec.ofBool rl) ++ rs2) rs1 (by
      norm_num)).trans (extract_all rs1))))
@[simp] theorem rs2Of_encA : rs2Of (encA f5 aq rl rs2 rs1 f3 rd op) = rs2 :=
    (extract_append_high (f5 ++ (BitVec.ofBool aq) ++ (BitVec.ofBool rl) ++ rs2 ++ rs1 ++ f3 ++ rd) op (by
      norm_num)).trans ((extract_append_high (f5 ++ (BitVec.ofBool aq) ++ (BitVec.ofBool rl) ++ rs2 ++ rs1 ++ f3) rd
      (by norm_num)).trans ((extract_append_high (f5 ++ (BitVec.ofBool aq) ++ (BitVec.ofBool rl) ++ rs2 ++ rs1) f3
      (by norm_num)).trans ((extract_append_high (f5 ++ (BitVec.ofBool aq) ++ (BitVec.ofBool rl) ++ rs2) rs1 (by
      norm_num)).trans ((extract_append_low (f5 ++ (BitVec.ofBool aq) ++ (BitVec.ofBool rl)) rs2 (by
      norm_num)).trans (extract_all rs2)))))
@[simp] theorem field_27_5_encA : BitVec.extractLsb' 27 5 (encA f5 aq rl rs2 rs1 f3 rd op) = f5 :=
    (extract_append_high (f5 ++ (BitVec.ofBool aq) ++ (BitVec.ofBool rl) ++ rs2 ++ rs1 ++ f3 ++ rd) op (by
      norm_num)).trans ((extract_append_high (f5 ++ (BitVec.ofBool aq) ++ (BitVec.ofBool rl) ++ rs2 ++ rs1 ++ f3) rd
      (by norm_num)).trans ((extract_append_high (f5 ++ (BitVec.ofBool aq) ++ (BitVec.ofBool rl) ++ rs2 ++ rs1) f3
      (by norm_num)).trans ((extract_append_high (f5 ++ (BitVec.ofBool aq) ++ (BitVec.ofBool rl) ++ rs2) rs1 (by
      norm_num)).trans ((extract_append_high (f5 ++ (BitVec.ofBool aq) ++ (BitVec.ofBool rl)) rs2 (by
      norm_num)).trans ((extract_append_high (f5 ++ (BitVec.ofBool aq)) (BitVec.ofBool rl) (by norm_num)).trans
      ((extract_append_high f5 (BitVec.ofBool aq) (by norm_num)).trans (extract_all f5)))))))
@[simp] theorem field_26_1_encA : BitVec.extractLsb' 26 1 (encA f5 aq rl rs2 rs1 f3 rd op) = BitVec.ofBool aq :=
    (extract_append_high (f5 ++ (BitVec.ofBool aq) ++ (BitVec.ofBool rl) ++ rs2 ++ rs1 ++ f3 ++ rd) op (by
      norm_num)).trans ((extract_append_high (f5 ++ (BitVec.ofBool aq) ++ (BitVec.ofBool rl) ++ rs2 ++ rs1 ++ f3) rd
      (by norm_num)).trans ((extract_append_high (f5 ++ (BitVec.ofBool aq) ++ (BitVec.ofBool rl) ++ rs2 ++ rs1) f3
      (by norm_num)).trans ((extract_append_high (f5 ++ (BitVec.ofBool aq) ++ (BitVec.ofBool rl) ++ rs2) rs1 (by
      norm_num)).trans ((extract_append_high (f5 ++ (BitVec.ofBool aq) ++ (BitVec.ofBool rl)) rs2 (by
      norm_num)).trans ((extract_append_high (f5 ++ (BitVec.ofBool aq)) (BitVec.ofBool rl) (by norm_num)).trans
      ((extract_append_low f5 (BitVec.ofBool aq) (by norm_num)).trans (extract_all (BitVec.ofBool aq))))))))
@[simp] theorem field_25_1_encA : BitVec.extractLsb' 25 1 (encA f5 aq rl rs2 rs1 f3 rd op) = BitVec.ofBool rl :=
    (extract_append_high (f5 ++ (BitVec.ofBool aq) ++ (BitVec.ofBool rl) ++ rs2 ++ rs1 ++ f3 ++ rd) op (by
      norm_num)).trans ((extract_append_high (f5 ++ (BitVec.ofBool aq) ++ (BitVec.ofBool rl) ++ rs2 ++ rs1 ++ f3) rd
      (by norm_num)).trans ((extract_append_high (f5 ++ (BitVec.ofBool aq) ++ (BitVec.ofBool rl) ++ rs2 ++ rs1) f3
      (by norm_num)).trans ((extract_append_high (f5 ++ (BitVec.ofBool aq) ++ (BitVec.ofBool rl) ++ rs2) rs1 (by
      norm_num)).trans ((extract_append_high (f5 ++ (BitVec.ofBool aq) ++ (BitVec.ofBool rl)) rs2 (by
      norm_num)).trans ((extract_append_low (f5 ++ (BitVec.ofBool aq)) (BitVec.ofBool rl) (by norm_num)).trans
      (extract_all (BitVec.ofBool rl)))))))
@[simp] theorem opcodeOf_encU : opcodeOf (encU u rd op) = op :=
    (extract_append_low (u ++ rd) op (by norm_num)).trans (extract_all op)
@[simp] theorem rdOf_encU : rdOf (encU u rd op) = rd :=
    (extract_append_high (u ++ rd) op (by norm_num)).trans ((extract_append_low u rd (by norm_num)).trans
      (extract_all rd))
@[simp] theorem uImmOf_encU : uImmOf (encU u rd op) = u :=
    (extract_append_high (u ++ rd) op (by norm_num)).trans ((extract_append_high u rd (by norm_num)).trans
      (extract_all u))
@[simp] theorem opcodeOf_encJ : opcodeOf (encJ off rd op) = op :=
    (extract_append_low ((off.extractLsb' 19 1) ++ (off.extractLsb' 0 10) ++ (off.extractLsb' 10 1) ++
      (off.extractLsb' 11 8) ++ rd) op (by norm_num)).trans (extract_all op)
@[simp] theorem rdOf_encJ : rdOf (encJ off rd op) = rd :=
    (extract_append_high ((off.extractLsb' 19 1) ++ (off.extractLsb' 0 10) ++ (off.extractLsb' 10 1) ++
      (off.extractLsb' 11 8) ++ rd) op (by norm_num)).trans ((extract_append_low ((off.extractLsb' 19 1) ++
      (off.extractLsb' 0 10) ++ (off.extractLsb' 10 1) ++ (off.extractLsb' 11 8)) rd (by norm_num)).trans
      (extract_all rd))
@[simp] theorem field_31_1_encJ : BitVec.extractLsb' 31 1 (encJ off rd op) = off.extractLsb' 19 1 :=
    (extract_append_high ((off.extractLsb' 19 1) ++ (off.extractLsb' 0 10) ++ (off.extractLsb' 10 1) ++
      (off.extractLsb' 11 8) ++ rd) op (by norm_num)).trans ((extract_append_high ((off.extractLsb' 19 1) ++
      (off.extractLsb' 0 10) ++ (off.extractLsb' 10 1) ++ (off.extractLsb' 11 8)) rd (by norm_num)).trans
      ((extract_append_high ((off.extractLsb' 19 1) ++ (off.extractLsb' 0 10) ++ (off.extractLsb' 10 1))
      (off.extractLsb' 11 8) (by norm_num)).trans ((extract_append_high ((off.extractLsb' 19 1) ++ (off.extractLsb'
      0 10)) (off.extractLsb' 10 1) (by norm_num)).trans ((extract_append_high ((off.extractLsb' 19 1))
      (off.extractLsb' 0 10) (by norm_num)).trans (extract_all (off.extractLsb' 19 1))))))
@[simp] theorem field_21_10_encJ : BitVec.extractLsb' 21 10 (encJ off rd op) = off.extractLsb' 0 10 :=
    (extract_append_high ((off.extractLsb' 19 1) ++ (off.extractLsb' 0 10) ++ (off.extractLsb' 10 1) ++
      (off.extractLsb' 11 8) ++ rd) op (by norm_num)).trans ((extract_append_high ((off.extractLsb' 19 1) ++
      (off.extractLsb' 0 10) ++ (off.extractLsb' 10 1) ++ (off.extractLsb' 11 8)) rd (by norm_num)).trans
      ((extract_append_high ((off.extractLsb' 19 1) ++ (off.extractLsb' 0 10) ++ (off.extractLsb' 10 1))
      (off.extractLsb' 11 8) (by norm_num)).trans ((extract_append_high ((off.extractLsb' 19 1) ++ (off.extractLsb'
      0 10)) (off.extractLsb' 10 1) (by norm_num)).trans ((extract_append_low ((off.extractLsb' 19 1))
      (off.extractLsb' 0 10) (by norm_num)).trans (extract_all (off.extractLsb' 0 10))))))
@[simp] theorem field_20_1_encJ : BitVec.extractLsb' 20 1 (encJ off rd op) = off.extractLsb' 10 1 :=
    (extract_append_high ((off.extractLsb' 19 1) ++ (off.extractLsb' 0 10) ++ (off.extractLsb' 10 1) ++
      (off.extractLsb' 11 8) ++ rd) op (by norm_num)).trans ((extract_append_high ((off.extractLsb' 19 1) ++
      (off.extractLsb' 0 10) ++ (off.extractLsb' 10 1) ++ (off.extractLsb' 11 8)) rd (by norm_num)).trans
      ((extract_append_high ((off.extractLsb' 19 1) ++ (off.extractLsb' 0 10) ++ (off.extractLsb' 10 1))
      (off.extractLsb' 11 8) (by norm_num)).trans ((extract_append_low ((off.extractLsb' 19 1) ++ (off.extractLsb' 0
      10)) (off.extractLsb' 10 1) (by norm_num)).trans (extract_all (off.extractLsb' 10 1)))))
@[simp] theorem field_12_8_encJ : BitVec.extractLsb' 12 8 (encJ off rd op) = off.extractLsb' 11 8 :=
    (extract_append_high ((off.extractLsb' 19 1) ++ (off.extractLsb' 0 10) ++ (off.extractLsb' 10 1) ++
      (off.extractLsb' 11 8) ++ rd) op (by norm_num)).trans ((extract_append_high ((off.extractLsb' 19 1) ++
      (off.extractLsb' 0 10) ++ (off.extractLsb' 10 1) ++ (off.extractLsb' 11 8)) rd (by norm_num)).trans
      ((extract_append_low ((off.extractLsb' 19 1) ++ (off.extractLsb' 0 10) ++ (off.extractLsb' 10 1))
      (off.extractLsb' 11 8) (by norm_num)).trans (extract_all (off.extractLsb' 11 8))))

/-- The immediate of an S-type word is the one it was built from (R95, R100). -/
@[simp] theorem sImmOf_encS : sImmOf (encS imm rs2 rs1 f3 op) = imm := by
  unfold sImmOf
  rw [field_25_7_encS, field_7_5_encS]
  exact (extract_join (lo := 0) (n := 7) (m := 5) imm).trans (extract_all imm)

/-- The offset of a J-type word is the one it was built from (R98, R102). -/
@[simp] theorem jImmOf_encJ : jImmOf (encJ off rd op) = off := by
  unfold jImmOf
  rw [field_31_1_encJ, field_12_8_encJ, field_20_1_encJ, field_21_10_encJ]
  rw [extract_join (lo := 11) (n := 1) (m := 8) off]
  rw [extract_join (lo := 10) (n := 1 + 8) (m := 1) off]
  exact (extract_join (lo := 0) (n := 1 + 8 + 1) (m := 10) off).trans (extract_all off)

/-- `aq` of an atomic word (R96). -/
@[simp] theorem aqOf_encA : aqOf (encA f5 aq rl rs2 rs1 f3 rd op) = aq := by
  rw [aqOf_eq_field, field_26_1_encA]
  cases aq <;> rfl

/-- `rl` of an atomic word (R96). -/
@[simp] theorem rlOf_encA : rlOf (encA f5 aq rl rs2 rs1 f3 rd op) = rl := by
  rw [rlOf_eq_field, field_25_1_encA]
  cases rl <;> rfl

end fields

end Sys2Proof
end

