-- ==== Sys2Proof/Laws/State.lean ====
section
/-! SUPPORT. One lemma per field per update of the state: what each named operation of Machine/Ops.lean and
Machine/Operands.lean leaves in each field. -/

namespace Sys2Proof.Machine

@[simp] theorem jumpTo_cfg (t : Word) (s : State) : (jumpTo t s).cfg = s.cfg := rfl
@[simp] theorem jumpTo_x (t : Word) (s : State) : (jumpTo t s).x = s.x := rfl
@[simp] theorem jumpTo_pc (t : Word) (s : State) : (jumpTo t s).pc = fit s.cfg t := rfl
@[simp] theorem jumpTo_f (t : Word) (s : State) : (jumpTo t s).f = s.f := rfl
@[simp] theorem jumpTo_fcsr (t : Word) (s : State) : (jumpTo t s).fcsr = s.fcsr := rfl
@[simp] theorem jumpTo_mstatus (t : Word) (s : State) : (jumpTo t s).mstatus = s.mstatus := rfl
@[simp] theorem jumpTo_mepc (t : Word) (s : State) : (jumpTo t s).mepc = s.mepc := rfl
@[simp] theorem jumpTo_mcause (t : Word) (s : State) : (jumpTo t s).mcause = s.mcause := rfl
@[simp] theorem jumpTo_mtval (t : Word) (s : State) : (jumpTo t s).mtval = s.mtval := rfl
@[simp] theorem jumpTo_mtvec (t : Word) (s : State) : (jumpTo t s).mtvec = s.mtvec := rfl
@[simp] theorem jumpTo_priv (t : Word) (s : State) : (jumpTo t s).priv = s.priv := rfl
@[simp] theorem jumpTo_reservation (t : Word) (s : State) : (jumpTo t s).reservation = s.reservation := rfl
@[simp] theorem jumpTo_mem (t : Word) (s : State) : (jumpTo t s).mem = s.mem := rfl
@[simp] theorem jumpTo_draws (t : Word) (s : State) : (jumpTo t s).draws = s.draws := rfl

@[simp] theorem advance_cfg (s : State) : (advance s).cfg = s.cfg := rfl
@[simp] theorem advance_x (s : State) : (advance s).x = s.x := rfl
@[simp] theorem advance_pc (s : State) : (advance s).pc = fit s.cfg (nextPc s) := rfl
@[simp] theorem advance_f (s : State) : (advance s).f = s.f := rfl
@[simp] theorem advance_fcsr (s : State) : (advance s).fcsr = s.fcsr := rfl
@[simp] theorem advance_mstatus (s : State) : (advance s).mstatus = s.mstatus := rfl
@[simp] theorem advance_mepc (s : State) : (advance s).mepc = s.mepc := rfl
@[simp] theorem advance_mcause (s : State) : (advance s).mcause = s.mcause := rfl
@[simp] theorem advance_mtval (s : State) : (advance s).mtval = s.mtval := rfl
@[simp] theorem advance_mtvec (s : State) : (advance s).mtvec = s.mtvec := rfl
@[simp] theorem advance_priv (s : State) : (advance s).priv = s.priv := rfl
@[simp] theorem advance_reservation (s : State) : (advance s).reservation = s.reservation := rfl
@[simp] theorem advance_mem (s : State) : (advance s).mem = s.mem := rfl
@[simp] theorem advance_draws (s : State) : (advance s).draws = s.draws := rfl

@[simp] theorem writeF_cfg (i : FReg) (v : Word) (s : State) : (writeF i v s).cfg = s.cfg := rfl
@[simp] theorem writeF_x (i : FReg) (v : Word) (s : State) : (writeF i v s).x = s.x := rfl
@[simp] theorem writeF_pc (i : FReg) (v : Word) (s : State) : (writeF i v s).pc = s.pc := rfl
@[simp] theorem writeF_f (i : FReg) (v : Word) (s : State) : (writeF i v s).f = s.f.set i.toNat (fitF s.cfg v) := rfl
@[simp] theorem writeF_fcsr (i : FReg) (v : Word) (s : State) : (writeF i v s).fcsr = s.fcsr := rfl
@[simp] theorem writeF_mstatus (i : FReg) (v : Word) (s : State) : (writeF i v s).mstatus = s.mstatus := rfl
@[simp] theorem writeF_mepc (i : FReg) (v : Word) (s : State) : (writeF i v s).mepc = s.mepc := rfl
@[simp] theorem writeF_mcause (i : FReg) (v : Word) (s : State) : (writeF i v s).mcause = s.mcause := rfl
@[simp] theorem writeF_mtval (i : FReg) (v : Word) (s : State) : (writeF i v s).mtval = s.mtval := rfl
@[simp] theorem writeF_mtvec (i : FReg) (v : Word) (s : State) : (writeF i v s).mtvec = s.mtvec := rfl
@[simp] theorem writeF_priv (i : FReg) (v : Word) (s : State) : (writeF i v s).priv = s.priv := rfl
@[simp] theorem writeF_reservation (i : FReg) (v : Word) (s : State) :
    (writeF i v s).reservation = s.reservation := rfl
@[simp] theorem writeF_mem (i : FReg) (v : Word) (s : State) : (writeF i v s).mem = s.mem := rfl
@[simp] theorem writeF_draws (i : FReg) (v : Word) (s : State) : (writeF i v s).draws = s.draws := rfl

@[simp] theorem markDirty_cfg (s : State) : (markDirty s).cfg = s.cfg := rfl
@[simp] theorem markDirty_x (s : State) : (markDirty s).x = s.x := rfl
@[simp] theorem markDirty_pc (s : State) : (markDirty s).pc = s.pc := rfl
@[simp] theorem markDirty_f (s : State) : (markDirty s).f = s.f := rfl
@[simp] theorem markDirty_fcsr (s : State) : (markDirty s).fcsr = s.fcsr := rfl
@[simp] theorem markDirty_mstatus (s : State) : (markDirty s).mstatus = { s.mstatus with fs := 3 } := rfl
@[simp] theorem markDirty_mepc (s : State) : (markDirty s).mepc = s.mepc := rfl
@[simp] theorem markDirty_mcause (s : State) : (markDirty s).mcause = s.mcause := rfl
@[simp] theorem markDirty_mtval (s : State) : (markDirty s).mtval = s.mtval := rfl
@[simp] theorem markDirty_mtvec (s : State) : (markDirty s).mtvec = s.mtvec := rfl
@[simp] theorem markDirty_priv (s : State) : (markDirty s).priv = s.priv := rfl
@[simp] theorem markDirty_reservation (s : State) : (markDirty s).reservation = s.reservation := rfl
@[simp] theorem markDirty_mem (s : State) : (markDirty s).mem = s.mem := rfl
@[simp] theorem markDirty_draws (s : State) : (markDirty s).draws = s.draws := rfl

@[simp] theorem settleFs_cfg (s : State) : (settleFs s).cfg = s.cfg := rfl
@[simp] theorem settleFs_x (s : State) : (settleFs s).x = s.x := rfl
@[simp] theorem settleFs_pc (s : State) : (settleFs s).pc = s.pc := rfl
@[simp] theorem settleFs_f (s : State) : (settleFs s).f = s.f := rfl
@[simp] theorem settleFs_fcsr (s : State) : (settleFs s).fcsr = s.fcsr := rfl
@[simp] theorem settleFs_mstatus (s : State) : (settleFs s).mstatus = { s.mstatus with fs := drawnFs s } := rfl
@[simp] theorem settleFs_mepc (s : State) : (settleFs s).mepc = s.mepc := rfl
@[simp] theorem settleFs_mcause (s : State) : (settleFs s).mcause = s.mcause := rfl
@[simp] theorem settleFs_mtval (s : State) : (settleFs s).mtval = s.mtval := rfl
@[simp] theorem settleFs_mtvec (s : State) : (settleFs s).mtvec = s.mtvec := rfl
@[simp] theorem settleFs_priv (s : State) : (settleFs s).priv = s.priv := rfl
@[simp] theorem settleFs_reservation (s : State) : (settleFs s).reservation = s.reservation := rfl
@[simp] theorem settleFs_mem (s : State) : (settleFs s).mem = s.mem := rfl
@[simp] theorem settleFs_draws (s : State) : (settleFs s).draws = s.draws + 1 := rfl

@[simp] theorem accrue_cfg (fl : FFlags) (s : State) : (accrue fl s).cfg = s.cfg := rfl
@[simp] theorem accrue_x (fl : FFlags) (s : State) : (accrue fl s).x = s.x := rfl
@[simp] theorem accrue_pc (fl : FFlags) (s : State) : (accrue fl s).pc = s.pc := rfl
@[simp] theorem accrue_f (fl : FFlags) (s : State) : (accrue fl s).f = s.f := rfl
@[simp] theorem accrue_fcsr (fl : FFlags) (s : State) : (accrue fl s).fcsr = fcsrAccrue s.fcsr fl := rfl
@[simp] theorem accrue_mstatus (fl : FFlags) (s : State) : (accrue fl s).mstatus = s.mstatus := rfl
@[simp] theorem accrue_mepc (fl : FFlags) (s : State) : (accrue fl s).mepc = s.mepc := rfl
@[simp] theorem accrue_mcause (fl : FFlags) (s : State) : (accrue fl s).mcause = s.mcause := rfl
@[simp] theorem accrue_mtval (fl : FFlags) (s : State) : (accrue fl s).mtval = s.mtval := rfl
@[simp] theorem accrue_mtvec (fl : FFlags) (s : State) : (accrue fl s).mtvec = s.mtvec := rfl
@[simp] theorem accrue_priv (fl : FFlags) (s : State) : (accrue fl s).priv = s.priv := rfl
@[simp] theorem accrue_reservation (fl : FFlags) (s : State) : (accrue fl s).reservation = s.reservation := rfl
@[simp] theorem accrue_mem (fl : FFlags) (s : State) : (accrue fl s).mem = s.mem := rfl
@[simp] theorem accrue_draws (fl : FFlags) (s : State) : (accrue fl s).draws = s.draws := rfl

@[simp] theorem setFcsr_cfg (v : BitVec 8) (s : State) : (setFcsr v s).cfg = s.cfg := rfl
@[simp] theorem setFcsr_x (v : BitVec 8) (s : State) : (setFcsr v s).x = s.x := rfl
@[simp] theorem setFcsr_pc (v : BitVec 8) (s : State) : (setFcsr v s).pc = s.pc := rfl
@[simp] theorem setFcsr_f (v : BitVec 8) (s : State) : (setFcsr v s).f = s.f := rfl
@[simp] theorem setFcsr_fcsr (v : BitVec 8) (s : State) : (setFcsr v s).fcsr = v := rfl
@[simp] theorem setFcsr_mstatus (v : BitVec 8) (s : State) : (setFcsr v s).mstatus = { s.mstatus with fs := 3 } := rfl
@[simp] theorem setFcsr_mepc (v : BitVec 8) (s : State) : (setFcsr v s).mepc = s.mepc := rfl
@[simp] theorem setFcsr_mcause (v : BitVec 8) (s : State) : (setFcsr v s).mcause = s.mcause := rfl
@[simp] theorem setFcsr_mtval (v : BitVec 8) (s : State) : (setFcsr v s).mtval = s.mtval := rfl
@[simp] theorem setFcsr_mtvec (v : BitVec 8) (s : State) : (setFcsr v s).mtvec = s.mtvec := rfl
@[simp] theorem setFcsr_priv (v : BitVec 8) (s : State) : (setFcsr v s).priv = s.priv := rfl
@[simp] theorem setFcsr_reservation (v : BitVec 8) (s : State) : (setFcsr v s).reservation = s.reservation := rfl
@[simp] theorem setFcsr_mem (v : BitVec 8) (s : State) : (setFcsr v s).mem = s.mem := rfl
@[simp] theorem setFcsr_draws (v : BitVec 8) (s : State) : (setFcsr v s).draws = s.draws := rfl

@[simp] theorem setMstatus_cfg (v : Word) (p : Priv) (s : State) : (setMstatus v p s).cfg = s.cfg := rfl
@[simp] theorem setMstatus_x (v : Word) (p : Priv) (s : State) : (setMstatus v p s).x = s.x := rfl
@[simp] theorem setMstatus_pc (v : Word) (p : Priv) (s : State) : (setMstatus v p s).pc = s.pc := rfl
@[simp] theorem setMstatus_f (v : Word) (p : Priv) (s : State) : (setMstatus v p s).f = s.f := rfl
@[simp] theorem setMstatus_fcsr (v : Word) (p : Priv) (s : State) : (setMstatus v p s).fcsr = s.fcsr := rfl
@[simp] theorem setMstatus_mstatus (v : Word) (p : Priv) (s : State) :
    (setMstatus v p s).mstatus = { mie := v.getLsbD 3, mpie := v.getLsbD 7, mpp := p, fs := v.extractLsb' 13 2 } := rfl
@[simp] theorem setMstatus_mepc (v : Word) (p : Priv) (s : State) : (setMstatus v p s).mepc = s.mepc := rfl
@[simp] theorem setMstatus_mcause (v : Word) (p : Priv) (s : State) : (setMstatus v p s).mcause = s.mcause := rfl
@[simp] theorem setMstatus_mtval (v : Word) (p : Priv) (s : State) : (setMstatus v p s).mtval = s.mtval := rfl
@[simp] theorem setMstatus_mtvec (v : Word) (p : Priv) (s : State) : (setMstatus v p s).mtvec = s.mtvec := rfl
@[simp] theorem setMstatus_priv (v : Word) (p : Priv) (s : State) : (setMstatus v p s).priv = s.priv := rfl
@[simp] theorem setMstatus_reservation (v : Word) (p : Priv) (s : State) :
    (setMstatus v p s).reservation = s.reservation := rfl
@[simp] theorem setMstatus_mem (v : Word) (p : Priv) (s : State) : (setMstatus v p s).mem = s.mem := rfl
@[simp] theorem setMstatus_draws (v : Word) (p : Priv) (s : State) : (setMstatus v p s).draws = s.draws := rfl

@[simp] theorem trapEntry_cfg (e : Exc) (tv : Word) (s : State) : (trapEntry e tv s).cfg = s.cfg := rfl
@[simp] theorem trapEntry_x (e : Exc) (tv : Word) (s : State) : (trapEntry e tv s).x = s.x := rfl
@[simp] theorem trapEntry_pc (e : Exc) (tv : Word) (s : State) : (trapEntry e tv s).pc = trapVector s := rfl
@[simp] theorem trapEntry_f (e : Exc) (tv : Word) (s : State) : (trapEntry e tv s).f = s.f := rfl
@[simp] theorem trapEntry_fcsr (e : Exc) (tv : Word) (s : State) : (trapEntry e tv s).fcsr = s.fcsr := rfl
@[simp] theorem trapEntry_mstatus (e : Exc) (tv : Word) (s : State) :
    (trapEntry e tv s).mstatus = { s.mstatus with mpie := s.mstatus.mie, mie := false, mpp := s.priv } := rfl
@[simp] theorem trapEntry_mepc (e : Exc) (tv : Word) (s : State) :
    (trapEntry e tv s).mepc = fit s.cfg (pcMask s.cfg s.pc) := rfl
@[simp] theorem trapEntry_mcause (e : Exc) (tv : Word) (s : State) : (trapEntry e tv s).mcause = excCode e := rfl
@[simp] theorem trapEntry_mtval (e : Exc) (tv : Word) (s : State) : (trapEntry e tv s).mtval = fit s.cfg tv := rfl
@[simp] theorem trapEntry_mtvec (e : Exc) (tv : Word) (s : State) : (trapEntry e tv s).mtvec = s.mtvec := rfl
@[simp] theorem trapEntry_priv (e : Exc) (tv : Word) (s : State) : (trapEntry e tv s).priv = .machine := rfl
@[simp] theorem trapEntry_reservation (e : Exc) (tv : Word) (s : State) :
    (trapEntry e tv s).reservation = s.reservation := rfl
@[simp] theorem trapEntry_mem (e : Exc) (tv : Word) (s : State) : (trapEntry e tv s).mem = s.mem := rfl
@[simp] theorem trapEntry_draws (e : Exc) (tv : Word) (s : State) : (trapEntry e tv s).draws = s.draws := rfl

@[simp] theorem trapReturn_cfg (s : State) : (trapReturn s).cfg = s.cfg := rfl
@[simp] theorem trapReturn_x (s : State) : (trapReturn s).x = s.x := rfl
@[simp] theorem trapReturn_pc (s : State) : (trapReturn s).pc = readMepc s := rfl
@[simp] theorem trapReturn_f (s : State) : (trapReturn s).f = s.f := rfl
@[simp] theorem trapReturn_fcsr (s : State) : (trapReturn s).fcsr = s.fcsr := rfl
@[simp] theorem trapReturn_mstatus (s : State) :
    (trapReturn s).mstatus = { s.mstatus with mie := s.mstatus.mpie, mpie := true, mpp := if s.cfg.hasU then .user else s.mstatus.mpp } := rfl
@[simp] theorem trapReturn_mepc (s : State) : (trapReturn s).mepc = s.mepc := rfl
@[simp] theorem trapReturn_mcause (s : State) : (trapReturn s).mcause = s.mcause := rfl
@[simp] theorem trapReturn_mtval (s : State) : (trapReturn s).mtval = s.mtval := rfl
@[simp] theorem trapReturn_mtvec (s : State) : (trapReturn s).mtvec = s.mtvec := rfl
@[simp] theorem trapReturn_priv (s : State) : (trapReturn s).priv = s.mstatus.mpp := rfl
@[simp] theorem trapReturn_reservation (s : State) : (trapReturn s).reservation = s.reservation := rfl
@[simp] theorem trapReturn_mem (s : State) : (trapReturn s).mem = s.mem := rfl
@[simp] theorem trapReturn_draws (s : State) : (trapReturn s).draws = s.draws := rfl

@[simp] theorem reserve_cfg (a : Word) (n : Nat) (s : State) : (reserve a n s).cfg = s.cfg := rfl
@[simp] theorem reserve_x (a : Word) (n : Nat) (s : State) : (reserve a n s).x = s.x := rfl
@[simp] theorem reserve_pc (a : Word) (n : Nat) (s : State) : (reserve a n s).pc = s.pc := rfl
@[simp] theorem reserve_f (a : Word) (n : Nat) (s : State) : (reserve a n s).f = s.f := rfl
@[simp] theorem reserve_fcsr (a : Word) (n : Nat) (s : State) : (reserve a n s).fcsr = s.fcsr := rfl
@[simp] theorem reserve_mstatus (a : Word) (n : Nat) (s : State) : (reserve a n s).mstatus = s.mstatus := rfl
@[simp] theorem reserve_mepc (a : Word) (n : Nat) (s : State) : (reserve a n s).mepc = s.mepc := rfl
@[simp] theorem reserve_mcause (a : Word) (n : Nat) (s : State) : (reserve a n s).mcause = s.mcause := rfl
@[simp] theorem reserve_mtval (a : Word) (n : Nat) (s : State) : (reserve a n s).mtval = s.mtval := rfl
@[simp] theorem reserve_mtvec (a : Word) (n : Nat) (s : State) : (reserve a n s).mtvec = s.mtvec := rfl
@[simp] theorem reserve_priv (a : Word) (n : Nat) (s : State) : (reserve a n s).priv = s.priv := rfl
@[simp] theorem reserve_reservation (a : Word) (n : Nat) (s : State) :
    (reserve a n s).reservation = some { addr := a, size := n } := rfl
@[simp] theorem reserve_mem (a : Word) (n : Nat) (s : State) : (reserve a n s).mem = s.mem := rfl
@[simp] theorem reserve_draws (a : Word) (n : Nat) (s : State) : (reserve a n s).draws = s.draws := rfl

@[simp] theorem splitPartial_cfg (s : State) (a v : Word) (n : Nat) : (splitPartial s a v n).cfg = s.cfg := rfl
@[simp] theorem splitPartial_x (s : State) (a v : Word) (n : Nat) : (splitPartial s a v n).x = s.x := rfl
@[simp] theorem splitPartial_pc (s : State) (a v : Word) (n : Nat) : (splitPartial s a v n).pc = s.pc := rfl
@[simp] theorem splitPartial_f (s : State) (a v : Word) (n : Nat) : (splitPartial s a v n).f = s.f := rfl
@[simp] theorem splitPartial_fcsr (s : State) (a v : Word) (n : Nat) : (splitPartial s a v n).fcsr = s.fcsr := rfl
@[simp] theorem splitPartial_mstatus (s : State) (a v : Word) (n : Nat) :
    (splitPartial s a v n).mstatus = s.mstatus := rfl
@[simp] theorem splitPartial_mepc (s : State) (a v : Word) (n : Nat) : (splitPartial s a v n).mepc = s.mepc := rfl
@[simp] theorem splitPartial_mcause (s : State) (a v : Word) (n : Nat) :
    (splitPartial s a v n).mcause = s.mcause := rfl
@[simp] theorem splitPartial_mtval (s : State) (a v : Word) (n : Nat) : (splitPartial s a v n).mtval = s.mtval := rfl
@[simp] theorem splitPartial_mtvec (s : State) (a v : Word) (n : Nat) : (splitPartial s a v n).mtvec = s.mtvec := rfl
@[simp] theorem splitPartial_priv (s : State) (a v : Word) (n : Nat) : (splitPartial s a v n).priv = s.priv := rfl
@[simp] theorem splitPartial_reservation (s : State) (a v : Word) (n : Nat) :
    (splitPartial s a v n).reservation = s.reservation := rfl
@[simp] theorem splitPartial_mem (s : State) (a v : Word) (n : Nat) :
    (splitPartial s a v n).mem = writeBytes s.cfg (splitTake s a) a v n s.mem := rfl
@[simp] theorem splitPartial_draws (s : State) (a v : Word) (n : Nat) :
    (splitPartial s a v n).draws = s.draws + 1 := rfl

@[simp] theorem storeBytes_cfg (s : State) (a v : Word) (n : Nat) : (storeBytes s a v n).cfg = s.cfg := rfl
@[simp] theorem storeBytes_x (s : State) (a v : Word) (n : Nat) : (storeBytes s a v n).x = s.x := rfl
@[simp] theorem storeBytes_pc (s : State) (a v : Word) (n : Nat) : (storeBytes s a v n).pc = s.pc := rfl
@[simp] theorem storeBytes_f (s : State) (a v : Word) (n : Nat) : (storeBytes s a v n).f = s.f := rfl
@[simp] theorem storeBytes_fcsr (s : State) (a v : Word) (n : Nat) : (storeBytes s a v n).fcsr = s.fcsr := rfl
@[simp] theorem storeBytes_mstatus (s : State) (a v : Word) (n : Nat) :
    (storeBytes s a v n).mstatus = s.mstatus := rfl
@[simp] theorem storeBytes_mepc (s : State) (a v : Word) (n : Nat) : (storeBytes s a v n).mepc = s.mepc := rfl
@[simp] theorem storeBytes_mcause (s : State) (a v : Word) (n : Nat) : (storeBytes s a v n).mcause = s.mcause := rfl
@[simp] theorem storeBytes_mtval (s : State) (a v : Word) (n : Nat) : (storeBytes s a v n).mtval = s.mtval := rfl
@[simp] theorem storeBytes_mtvec (s : State) (a v : Word) (n : Nat) : (storeBytes s a v n).mtvec = s.mtvec := rfl
@[simp] theorem storeBytes_priv (s : State) (a v : Word) (n : Nat) : (storeBytes s a v n).priv = s.priv := rfl
@[simp] theorem storeBytes_reservation (s : State) (a v : Word) (n : Nat) :
    (storeBytes s a v n).reservation = s.reservation := rfl
@[simp] theorem storeBytes_mem (s : State) (a v : Word) (n : Nat) :
    (storeBytes s a v n).mem = writeBytes s.cfg (fun _ => true) a v n s.mem := rfl
@[simp] theorem storeBytes_draws (s : State) (a v : Word) (n : Nat) : (storeBytes s a v n).draws = s.draws := rfl

@[simp] theorem writeX_cfg (i : XReg) (v : Word) (s : State) : (writeX i v s).cfg = s.cfg := by unfold writeX; split <;> rfl
@[simp] theorem writeX_pc (i : XReg) (v : Word) (s : State) : (writeX i v s).pc = s.pc := by unfold writeX; split <;> rfl
@[simp] theorem writeX_f (i : XReg) (v : Word) (s : State) : (writeX i v s).f = s.f := by unfold writeX; split <;> rfl
@[simp] theorem writeX_fcsr (i : XReg) (v : Word) (s : State) : (writeX i v s).fcsr = s.fcsr := by unfold writeX; split <;> rfl
@[simp] theorem writeX_mstatus (i : XReg) (v : Word) (s : State) : (writeX i v s).mstatus = s.mstatus := by unfold writeX; split <;> rfl
@[simp] theorem writeX_mepc (i : XReg) (v : Word) (s : State) : (writeX i v s).mepc = s.mepc := by unfold writeX; split <;> rfl
@[simp] theorem writeX_mcause (i : XReg) (v : Word) (s : State) : (writeX i v s).mcause = s.mcause := by unfold writeX; split <;> rfl
@[simp] theorem writeX_mtval (i : XReg) (v : Word) (s : State) : (writeX i v s).mtval = s.mtval := by unfold writeX; split <;> rfl
@[simp] theorem writeX_mtvec (i : XReg) (v : Word) (s : State) : (writeX i v s).mtvec = s.mtvec := by unfold writeX; split <;> rfl
@[simp] theorem writeX_priv (i : XReg) (v : Word) (s : State) : (writeX i v s).priv = s.priv := by unfold writeX; split <;> rfl
@[simp] theorem writeX_reservation (i : XReg) (v : Word) (s : State) : (writeX i v s).reservation = s.reservation := by unfold writeX; split <;> rfl
@[simp] theorem writeX_mem (i : XReg) (v : Word) (s : State) : (writeX i v s).mem = s.mem := by unfold writeX; split <;> rfl
@[simp] theorem writeX_draws (i : XReg) (v : Word) (s : State) : (writeX i v s).draws = s.draws := by unfold writeX; split <;> rfl
theorem writeX_x (i : XReg) (v : Word) (s : State) :
    (writeX i v s).x = if i = 0 then s.x else s.x.set i.toNat (fit s.cfg v) := by unfold writeX; split <;> rfl

end Sys2Proof.Machine
end

