-- ==== Sys2Proof/Laws/Registers.lean ====
section
/-! SUPPORT. Widths, registers and the program counter: what the accessors of Machine/Ops.lean read after each named
operation. -/

namespace Sys2Proof.Machine

/-! ### Widths -/

@[simp] theorem fit_fit (c : Config) (v : Word) : fit c (fit c v) = fit c v := by
  unfold fit; split <;> simp

@[simp] theorem fit_zero (c : Config) : fit c 0#64 = 0#64 := by unfold fit; split <;> rfl

@[simp] theorem fitF_fitF (c : Config) (v : Word) : fitF c (fitF c v) = fitF c v := by
  unfold fitF; split <;> simp

@[simp] theorem fit_sext (c : Config) {w : Nat} (v : BitVec w) : fit c (sext c v) = sext c v := fit_fit _ _

@[simp] theorem fit_zext (c : Config) {w : Nat} (v : BitVec w) : fit c (zext c v) = zext c v := fit_fit _ _

theorem fit_toNat (c : Config) (v : Word) : (fit c v).toNat = v.toNat % c.space := by
  unfold fit Config.space
  cases c.xlen
  · simp only [BitVec.toNat_setWidth]; omega
  · exact (Nat.mod_eq_of_lt v.isLt).symm

theorem fitF_of_hasD {c : Config} (h : c.hasD = true) (v : Word) : fitF c v = v := by simp [fitF, h]

@[simp] theorem fitF_box (c : Config) (v : BitVec 32) : fitF c (box c v) = box c v := by
  unfold fitF box
  split
  · rfl
  · simp

@[simp] theorem fit_effAddr (s : State) (i : XReg) (imm : BitVec 12) :
    fit s.cfg (effAddr s i imm) = effAddr s i imm := fit_fit _ _

@[simp] theorem fit_luiValue (c : Config) (imm : BitVec 20) : fit c (luiValue c imm) = luiValue c imm := fit_fit _ _

@[simp] theorem fit_nextPc (s : State) : fit s.cfg (nextPc s) = nextPc s := fit_fit _ _

/-! ### Integer registers (R21) -/

@[simp] theorem readX_zero (s : State) : readX s 0 = 0 := rfl

@[simp] theorem fit_readX (s : State) (i : XReg) : fit s.cfg (readX s i) = readX s i := by
  unfold readX; split <;> simp

theorem readX_congr {s t : State} (hc : t.cfg = s.cfg) (hx : t.x = s.x) (i : XReg) : readX t i = readX s i := by
  unfold readX; rw [hc, hx]

/-- R10, R21: what `x[i]` reads after `x[rd] <- v`. -/
theorem readX_writeX (rd i : XReg) (v : Word) (s : State) :
    readX (writeX rd v s) i = if i = rd ∧ rd ≠ 0 then fit s.cfg v else readX s i := by
  by_cases hi : i = 0
  · subst hi; split
    · next h => exact absurd h.1.symm h.2
    · rfl
  by_cases hr : rd = 0
  · simp [writeX, hr]
  · have hne : (i = rd) ↔ (rd.toNat = i.toNat) := by rw [eq_comm, BitVec.toNat_inj]
    simp only [readX, hi, if_false, writeX_cfg, writeX_x, hr, not_false_eq_true, and_true, hne, ne_eq]
    rw [Vector.getElem_set]
    split <;> simp

@[simp] theorem readF_writeX (rd : XReg) (v : Word) (s : State) (i : FReg) : readF (writeX rd v s) i = readF s i := by
  unfold readF; simp

/-! ### Floating-point registers (R27) -/

@[simp] theorem fitF_readF (s : State) (i : FReg) : fitF s.cfg (readF s i) = readF s i := fitF_fitF _ _

theorem readF_congr {s t : State} (hc : t.cfg = s.cfg) (hf : t.f = s.f) (i : FReg) : readF t i = readF s i := by
  unfold readF; rw [hc, hf]

/-- R10, R27: what `f[i]` reads after `f[rd] <- v`. -/
theorem readF_writeF (rd i : FReg) (v : Word) (s : State) :
    readF (writeF rd v s) i = if i = rd then fitF s.cfg v else readF s i := by
  have hne : (i = rd) ↔ (rd.toNat = i.toNat) := by rw [eq_comm, BitVec.toNat_inj]
  simp only [readF, writeF_cfg, writeF_f, hne, Vector.getElem_set]
  split <;> simp

@[simp] theorem readX_writeF (rd : FReg) (v : Word) (s : State) (i : XReg) : readX (writeF rd v s) i = readX s i := rfl

/-! ### Operations that write no register -/

@[simp] theorem readX_jumpTo (t : Word) (s : State) (i : XReg) : readX (jumpTo t s) i = readX s i := rfl
@[simp] theorem readF_jumpTo (t : Word) (s : State) (i : FReg) : readF (jumpTo t s) i = readF s i := rfl
@[simp] theorem readX_advance (s : State) (i : XReg) : readX (advance s) i = readX s i := rfl
@[simp] theorem readF_advance (s : State) (i : FReg) : readF (advance s) i = readF s i := rfl
@[simp] theorem readX_markDirty (s : State) (i : XReg) : readX (markDirty s) i = readX s i := rfl
@[simp] theorem readF_markDirty (s : State) (i : FReg) : readF (markDirty s) i = readF s i := rfl
@[simp] theorem readX_settleFs (s : State) (i : XReg) : readX (settleFs s) i = readX s i := rfl
@[simp] theorem readF_settleFs (s : State) (i : FReg) : readF (settleFs s) i = readF s i := rfl
@[simp] theorem readX_accrue (fl : FFlags) (s : State) (i : XReg) : readX (accrue fl s) i = readX s i := rfl
@[simp] theorem readF_accrue (fl : FFlags) (s : State) (i : FReg) : readF (accrue fl s) i = readF s i := rfl
@[simp] theorem readX_setFcsr (v : BitVec 8) (s : State) (i : XReg) : readX (setFcsr v s) i = readX s i := rfl
@[simp] theorem readF_setFcsr (v : BitVec 8) (s : State) (i : FReg) : readF (setFcsr v s) i = readF s i := rfl
@[simp] theorem readX_setMstatus (v : Word) (p : Priv) (s : State) (i : XReg) : readX (setMstatus v p s) i = readX s i := rfl
@[simp] theorem readF_setMstatus (v : Word) (p : Priv) (s : State) (i : FReg) : readF (setMstatus v p s) i = readF s i := rfl
@[simp] theorem readX_trapEntry (e : Exc) (tv : Word) (s : State) (i : XReg) : readX (trapEntry e tv s) i = readX s i := rfl
@[simp] theorem readF_trapEntry (e : Exc) (tv : Word) (s : State) (i : FReg) : readF (trapEntry e tv s) i = readF s i := rfl
@[simp] theorem readX_trapReturn (s : State) (i : XReg) : readX (trapReturn s) i = readX s i := rfl
@[simp] theorem readF_trapReturn (s : State) (i : FReg) : readF (trapReturn s) i = readF s i := rfl
@[simp] theorem readX_reserve (a : Word) (n : Nat) (s : State) (i : XReg) : readX (reserve a n s) i = readX s i := rfl
@[simp] theorem readF_reserve (a : Word) (n : Nat) (s : State) (i : FReg) : readF (reserve a n s) i = readF s i := rfl
@[simp] theorem readX_splitPartial (s : State) (a v : Word) (n : Nat) (i : XReg) : readX (splitPartial s a v n) i = readX s i := rfl
@[simp] theorem readF_splitPartial (s : State) (a v : Word) (n : Nat) (i : FReg) : readF (splitPartial s a v n) i = readF s i := rfl
@[simp] theorem readX_storeBytes (s : State) (a v : Word) (n : Nat) (i : XReg) : readX (storeBytes s a v n) i = readX s i := rfl
@[simp] theorem readF_storeBytes (s : State) (a v : Word) (n : Nat) (i : FReg) : readF (storeBytes s a v n) i = readF s i := rfl

/-! ### The program counter (R14, R25) -/

@[simp] theorem readPc_jumpTo (t : Word) (s : State) : readPc (jumpTo t s) = fit s.cfg t := fit_fit _ _

@[simp] theorem readPc_advance (s : State) : readPc (advance s) = nextPc s := by
  simp [advance]

theorem nextPc_congr {s t : State} (hc : t.cfg = s.cfg) (hp : t.pc = s.pc) : nextPc t = nextPc s := by
  unfold nextPc readPc; rw [hc, hp]

/-! ### `fcsr` (R30, R33, R140) -/

@[simp] theorem fcsrFlags_make (m : BitVec 3) (fl : FFlags) : fcsrFlags (fcsrMake m fl) = fl := by
  revert m fl; decide

@[simp] theorem fcsrFrm_make (m : BitVec 3) (fl : FFlags) : fcsrFrm (fcsrMake m fl) = m := by
  revert m fl; decide

@[simp] theorem fcsrMake_parts (v : BitVec 8) : fcsrMake (fcsrFrm v) (fcsrFlags v) = v := by
  revert v; decide

@[simp] theorem fcsrFlags_accrue (v : BitVec 8) (fl : FFlags) :
    fcsrFlags (fcsrAccrue v fl) = fcsrFlags v ||| fl := by
  ext k hk
  simp only [fcsrFlags, fcsrAccrue, BitVec.getElem_or, BitVec.getElem_extractLsb', BitVec.getLsbD_or,
    BitVec.getLsbD_setWidth, Nat.zero_add, BitVec.getLsbD_eq_getElem hk]
  have : k < 8 := by omega
  simp [this]

@[simp] theorem fcsrFrm_accrue (v : BitVec 8) (fl : FFlags) : fcsrFrm (fcsrAccrue v fl) = fcsrFrm v := by
  ext k hk
  simp only [fcsrFrm, fcsrAccrue, BitVec.getElem_extractLsb', BitVec.getLsbD_or, BitVec.getLsbD_setWidth]
  simp

end Sys2Proof.Machine
end

