-- ==== Sys2Proof/Laws/Memory.lean ====
section
/-! SUPPORT. The memory: reading after writing, and the canonical form that every operation keeps. -/

namespace Sys2Proof.Machine

/-! ### One byte -/

theorem memByte_memCons (a : Nat) (b : Byte) (m : List Host.Cell) (n : Nat) :
    memByte (memCons a b m) n = if n = a then some b else memByte m n := by
  simp only [memCons, unlistedByte, reduceCtorEq, if_false, memByte, eq_comm]

/-- R60: what byte `n` reads after `M[a] <- b`. -/
theorem memByte_memSet (m : List Host.Cell) (a : Nat) (b : Byte) (n : Nat) :
    memByte (memSet m a b) n = if n = a then some b else memByte m n := by
  induction m with
  | nil => exact memByte_memCons a b [] n
  | cons c m ih =>
    obtain ⟨k, v⟩ := c
    simp only [memSet]
    split
    · exact memByte_memCons a b _ n
    · split
      · next h => subst h; rw [memByte_memCons]; simp only [memByte, eq_comm (a := n)]; split <;> rfl
      · next h =>
        simp only [memByte, ih, eq_comm (a := n)]
        split
        · next hk => subst hk; simp [h]
        · rfl

theorem memWfFrom_mono {sp lo lo' : Nat} {m : List Host.Cell} (hl : lo' ≤ lo) (h : memWfFrom sp lo m = true) :
    memWfFrom sp lo' m = true := by
  cases m with
  | nil => rfl
  | cons c m =>
    simp only [memWfFrom, Bool.and_eq_true, decide_eq_true_eq] at h ⊢
    exact ⟨⟨⟨by omega, h.1.1.2⟩, h.1.2⟩, h.2⟩

theorem memWfFrom_memCons {sp lo a : Nat} {b : Byte} {m : List Host.Cell} (hl : lo ≤ a) (ha : a < sp)
    (h : memWfFrom sp (a + 1) m = true) : memWfFrom sp lo (memCons a b m) = true := by
  simp [memCons, unlistedByte, memWfFrom, hl, ha, h]

/-- A write keeps the canonical form. -/
theorem memWfFrom_memSet {sp a : Nat} {b : Byte} (ha : a < sp) :
    ∀ {lo : Nat} {m : List Host.Cell}, lo ≤ a → memWfFrom sp lo m = true → memWfFrom sp lo (memSet m a b) = true
  | _, [], hl, _ => memWfFrom_memCons hl ha rfl
  | lo, (k, v) :: m, hl, h => by
    have h' := h
    simp only [memWfFrom, Bool.and_eq_true, decide_eq_true_eq] at h'
    obtain ⟨⟨⟨h1, h2⟩, h3⟩, h4⟩ := h'
    simp only [memSet]
    split
    · refine memWfFrom_memCons hl ha ?_
      simp only [memWfFrom, Bool.and_eq_true, decide_eq_true_eq]
      exact ⟨⟨⟨by omega, h2⟩, h3⟩, h4⟩
    · split
      · next e => subst e; exact memWfFrom_memCons hl ha h4
      · simp only [memWfFrom, Bool.and_eq_true, decide_eq_true_eq]
        exact ⟨⟨⟨h1, h2⟩, h3⟩, memWfFrom_memSet ha (by omega) h4⟩

theorem reset_mem_wf : Memory.wf State.reset.cfg State.reset.mem = true := rfl

/-! ### Several bytes (R61) -/

theorem space_pos (c : Config) : 0 < c.space := by unfold Config.space; cases c.xlen <;> norm_num

theorem eight_le_space (c : Config) : 8 ≤ c.space := by unfold Config.space; cases c.xlen <;> norm_num

theorem byteAddr_lt (c : Config) (a : Word) (k : Nat) : byteAddr c a k < c.space := Nat.mod_lt _ (space_pos c)

theorem byteAddr_inj {c : Config} {a : Word} {i j : Nat} (hi : i < 8) (hj : j < 8)
    (h : byteAddr c a i = byteAddr c a j) : i = j := by
  have hs := eight_le_space c
  have := (Nat.ModEq.add_left_cancel' a.toNat h : i ≡ j [MOD c.space])
  rwa [Nat.ModEq, Nat.mod_eq_of_lt (by omega), Nat.mod_eq_of_lt (by omega)] at this

theorem writeBytes_wf {c : Config} {take : Nat → Bool} {a v : Word} {m : List Host.Cell}
    (h : Memory.wf c m = true) : ∀ n, Memory.wf c (writeBytes c take a v n m) = true
  | 0 => h
  | n + 1 => by
    simp only [writeBytes]
    split
    · exact memWfFrom_memSet (byteAddr_lt c a n) (Nat.zero_le _) (writeBytes_wf h n)
    · exact writeBytes_wf h n

/-- R61: a byte outside the access, or that `take` leaves out, reads as before. -/
theorem memByte_writeBytes_of_not {c : Config} {take : Nat → Bool} {a v : Word} {m : List Host.Cell} {p : Nat} :
    ∀ {n : Nat}, (∀ k < n, take k = true → p ≠ byteAddr c a k) →
      memByte (writeBytes c take a v n m) p = memByte m p
  | 0, _ => rfl
  | n + 1, h => by
    have ih := memByte_writeBytes_of_not (v := v) (m := m) (n := n) fun k hk => h k (by omega)
    simp only [writeBytes]
    split
    · next ht => rw [memByte_memSet, if_neg (h n (by omega) ht), ih]
    · exact ih

/-- R61: byte `k` of the access reads as byte `k` of the value, if `take` picks it. -/
theorem memByte_writeBytes_of_take {c : Config} {take : Nat → Bool} {a v : Word} {m : List Host.Cell} {k : Nat}
    (ht : take k = true) :
    ∀ {n : Nat}, k < n → n ≤ 8 → memByte (writeBytes c take a v n m) (byteAddr c a k) = some (byteOf v k)
  | n + 1, hk, hn => by
    simp only [writeBytes]
    by_cases e : k = n
    · subst e; rw [if_pos ht, memByte_memSet, if_pos rfl]
    · have ih := memByte_writeBytes_of_take (c := c) (a := a) (v := v) (m := m) ht (n := n) (by omega) (by omega)
      split
      · rw [memByte_memSet, if_neg fun h => e (byteAddr_inj (by omega) (by omega) h), ih]
      · exact ih

/-- R61: byte `k` of the access reads as before, if `take` leaves it out. -/
theorem memByte_writeBytes_of_not_take {c : Config} {take : Nat → Bool} {a v : Word} {m : List Host.Cell} {k n : Nat}
    (ht : take k = false) (hn : n ≤ 8) (hk : k < 8) :
    memByte (writeBytes c take a v n m) (byteAddr c a k) = memByte m (byteAddr c a k) := by
  refine memByte_writeBytes_of_not fun j hj htj e => ?_
  have := byteAddr_inj hk (Nat.lt_of_lt_of_le hj hn) e
  subst this; simp [ht] at htj

theorem readBytes_congr {c : Config} {m m' : List Host.Cell} (h : ∀ p, memByte m' p = memByte m p) (a : Word) :
    ∀ n, readBytes c m' a n = readBytes c m a n
  | 0 => rfl
  | n + 1 => by simp only [readBytes, readBytes_congr h a n, h]

theorem byteOf_eq_iff_low {v w : Word} {n : Nat} :
    (∀ k < n, byteOf v k = byteOf w k) ↔ ∀ i < 8 * n, v.getLsbD i = w.getLsbD i := by
  constructor
  · intro h i hi
    have hb := h (i / 8) (by omega)
    have hm : i % 8 < 8 := Nat.mod_lt _ (by norm_num)
    have := congrArg (fun b : Byte => b.getLsbD (i % 8)) hb
    simp only [byteOf, BitVec.getLsbD_extractLsb', hm, decide_true, Bool.true_and] at this
    rwa [Nat.div_add_mod] at this
  · intro h k hk
    ext j hj
    simp only [byteOf, BitVec.getElem_extractLsb']
    exact h _ (by omega)

/-- R61: when the `n` bytes at `a` are those of `v`, the access reads the low `n` bytes of `v`. -/
theorem readBytes_of_bytes {c : Config} {m : List Host.Cell} {a v : Word} :
    ∀ {n : Nat}, n ≤ 8 → (∀ k < n, memByte m (byteAddr c a k) = some (byteOf v k)) →
      readBytes c m a n = .ok ((v.setWidth (8 * n)).setWidth 64)
  | 0, _, _ => by
    simp only [readBytes]; congr 1
    apply BitVec.eq_of_getLsbD_eq
    intro i hi
    simp
  | n + 1, hn, h => by
    have ih := readBytes_of_bytes (n := n) (by omega) fun k hk => h k (by omega)
    simp only [readBytes, ih, h n (by omega)]
    congr 1
    apply BitVec.eq_of_getLsbD_eq
    intro i hi
    simp only [byteOf, BitVec.getLsbD_or, BitVec.getLsbD_setWidth, BitVec.getLsbD_shiftLeft,
      BitVec.getLsbD_extractLsb', hi, decide_true, Bool.true_and]
    by_cases h1 : i < 8 * n
    · have : i < 8 * (n + 1) := by omega
      simp [h1, this]
    · by_cases h2 : i < 8 * (n + 1)
      · have e : 8 * n + (i - 8 * n) = i := by omega
        have h3 : i - 8 * n < 8 := by omega
        have h4 : i - 8 * n < 64 := by omega
        simp [h1, h2, h3, h4, e]
      · have h3 : ¬ i - 8 * n < 8 := by omega
        simp [h1, h2, h3]

/-- What a read that succeeds says of the memory: the bytes are those of the value. -/
theorem bytes_of_readBytes {c : Config} {m : List Host.Cell} {a : Word} :
    ∀ {n : Nat} {w : Word}, n ≤ 8 → readBytes c m a n = .ok w →
      (∀ k < n, memByte m (byteAddr c a k) = some (byteOf w k)) ∧ ∀ i, 8 * n ≤ i → w.getLsbD i = false
  | 0, w, _, h => by
    simp only [readBytes, Except.ok.injEq] at h
    subst h
    exact ⟨fun k hk => absurd hk (Nat.not_lt_zero k), by simp⟩
  | n + 1, w, hn, h => by
    simp only [readBytes] at h
    split at h
    · cases h
    · next lo hlo =>
      obtain ⟨hb, hz⟩ := bytes_of_readBytes (n := n) (by omega) hlo
      split at h
      · cases h
      · next b hbn =>
        simp only [Except.ok.injEq] at h
        subst h
        have hg : ∀ i, (lo ||| BitVec.setWidth 64 b <<< (8 * n)).getLsbD i =
            (lo.getLsbD i || (decide (i < 64) && !decide (i < 8 * n) && b.getLsbD (i - 8 * n))) := by
          intro i
          simp only [BitVec.getLsbD_or, BitVec.getLsbD_shiftLeft, BitVec.getLsbD_setWidth]
          by_cases h64 : i < 64
          · have : i - 8 * n < 64 := by omega
            simp [h64, this]
          · simp [h64]
        constructor
        · intro k hk
          by_cases e : k = n
          · subst e
            rw [hbn]
            congr 1
            apply BitVec.eq_of_getLsbD_eq
            intro j hj
            have h1 : lo.getLsbD (8 * k + j) = false := hz _ (by omega)
            have h2 : 8 * k + j < 64 := by omega
            have h3 : ¬ 8 * k + j < 8 * k := by omega
            have h4 : 8 * k + j - 8 * k = j := by omega
            simp only [byteOf, BitVec.getLsbD_extractLsb', hj, decide_true, Bool.true_and]
            rw [hg, h1]
            simp [h2, h4]
          · rw [hb k (by omega)]
            congr 1
            refine (byteOf_eq_iff_low (n := n)).2 (fun i hi => ?_) k (by omega)
            rw [hg]
            simp [hi]
        · intro i hi
          have h1 := hz i (by omega)
          have h2 : b.getLsbD (i - 8 * n) = false := BitVec.getLsbD_of_ge _ _ (by omega)
          rw [hg, h1, h2]; simp

end Sys2Proof.Machine
end

