-- ==== Sys2Proof/Laws/Ops.lean ====
section
/-! SUPPORT. One lemma for each shared operation: everything it can answer. -/

namespace Sys2Proof.Machine

/-! ### Taking an exception (R372, R377) -/

/-- All that `raise` can answer. -/
theorem raise_cases (e : Exc) (tv : Word) (s : State) :
    (s.cfg.traps = .full ∧ raise e tv s = .next (trapEntry e tv s)) ∨
    (s.cfg.traps = .terminal ∧ raise e tv s = .fault (.terminal e (readPc s) (fit s.cfg tv))) := by
  unfold raise; cases s.cfg.traps <;> simp

theorem raise_next {e : Exc} {tv : Word} {s t : State} (h : raise e tv s = .next t) :
    s.cfg.traps = .full ∧ t = trapEntry e tv s := by
  obtain ⟨h1, h2⟩ | ⟨-, h2⟩ := raise_cases e tv s <;> rw [h2] at h <;> cases h
  exact ⟨h1, rfl⟩

theorem illegal_next {i : Instr} {s t : State} (h : illegal i s = .next t) :
    s.cfg.traps = .full ∧ t = trapEntry .illegalInstruction ((encode i).setWidth 64) s := raise_next h

/-! ### Loads and stores (R62, R63, R68, R270, R330) -/

/-- All that a load can answer. -/
theorem loadThen_cases (s : State) (strict : Bool) (a : Word) (n : Nat) (k : Word → State) :
    (misalignedTraps s.cfg strict a n = true ∧ loadThen s strict a n k = raise .loadAddressMisaligned a s) ∨
    (misalignedTraps s.cfg strict a n = false ∧ allBytes s.cfg (readableAt s.cfg) a n = false ∧
      loadThen s strict a n k = raise .loadAccessFault a s) ∨
    (misalignedTraps s.cfg strict a n = false ∧ allBytes s.cfg (readableAt s.cfg) a n = true ∧
      ((∃ p, readBytes s.cfg s.mem a n = .error p ∧ loadThen s strict a n k = .fault (.unwrittenByte p)) ∨
        ∃ v, readBytes s.cfg s.mem a n = .ok v ∧ loadThen s strict a n k = .next (k v))) := by
  unfold loadThen loadAccess
  cases misalignedTraps s.cfg strict a n <;> cases allBytes s.cfg (readableAt s.cfg) a n <;>
    cases readBytes s.cfg s.mem a n <;> simp

/-- What a load that answers a next state did: it took an exception, or it read a value. -/
theorem loadThen_next {s t : State} {strict : Bool} {a : Word} {n : Nat} {k : Word → State}
    (h : loadThen s strict a n k = .next t) :
    (∃ e, (e = .loadAddressMisaligned ∨ e = .loadAccessFault) ∧ t = trapEntry e a s) ∨
    (misalignedTraps s.cfg strict a n = false ∧ ∃ v, readBytes s.cfg s.mem a n = .ok v ∧ t = k v) := by
  obtain ⟨-, h1⟩ | ⟨-, -, h1⟩ | ⟨hm, -, ⟨p, -, h1⟩ | ⟨v, hv, h1⟩⟩ := loadThen_cases s strict a n k <;> rw [h1] at h
  · exact .inl ⟨_, .inl rfl, (raise_next h).2⟩
  · exact .inl ⟨_, .inr rfl, (raise_next h).2⟩
  · cases h
  · cases h; exact .inr ⟨hm, v, hv, rfl⟩

/-- All that a store can answer. -/
theorem storeThen_cases (s : State) (a v : Word) (n : Nat) (k : State → State) :
    (misalignedTraps s.cfg false a n = true ∧ storeThen s a v n k = raise .storeAddressMisaligned a s) ∨
    (misalignedTraps s.cfg false a n = false ∧ allBytes s.cfg (writableAt s.cfg) a n = false ∧
      ((isAligned a n = true ∧ storeThen s a v n k = raise .storeAccessFault a s) ∨
        (isAligned a n = false ∧ touchesCode s.cfg a n = true ∧ storeThen s a v n k = .refused (.storeToCode a)) ∨
        (isAligned a n = false ∧ touchesCode s.cfg a n = false ∧
          storeThen s a v n k = raise .storeAccessFault a (splitPartial s a v n)))) ∨
    (misalignedTraps s.cfg false a n = false ∧ allBytes s.cfg (writableAt s.cfg) a n = true ∧
      ((touchesCode s.cfg a n = true ∧ storeThen s a v n k = .refused (.storeToCode a)) ∨
        (touchesCode s.cfg a n = false ∧ storeThen s a v n k = .next (k (storeBytes s a v n))))) := by
  unfold storeThen
  cases misalignedTraps s.cfg false a n <;> cases allBytes s.cfg (writableAt s.cfg) a n <;>
    cases isAligned a n <;> cases touchesCode s.cfg a n <;> simp

/-- What a store that answers a next state did: it took an exception, or it took one after writing some bytes of a
misaligned access, or it wrote all bytes. -/
theorem storeThen_next {s t : State} {a v : Word} {n : Nat} {k : State → State} (h : storeThen s a v n k = .next t) :
    (∃ e, (e = .storeAddressMisaligned ∨ e = .storeAccessFault) ∧ t = trapEntry e a s) ∨
    (touchesCode s.cfg a n = false ∧ t = trapEntry .storeAccessFault a (splitPartial s a v n)) ∨
    (touchesCode s.cfg a n = false ∧ allBytes s.cfg (writableAt s.cfg) a n = true ∧ t = k (storeBytes s a v n)) := by
  obtain ⟨-, h1⟩ | ⟨-, -, ⟨-, h1⟩ | ⟨-, -, h1⟩ | ⟨-, ht, h1⟩⟩ | ⟨-, hw, ⟨-, h1⟩ | ⟨ht, h1⟩⟩ :=
    storeThen_cases s a v n k <;> rw [h1] at h
  · exact .inl ⟨_, .inl rfl, (raise_next h).2⟩
  · exact .inl ⟨_, .inr rfl, (raise_next h).2⟩
  · cases h
  · exact .inr (.inl ⟨ht, (raise_next h).2⟩)
  · cases h
  · cases h; exact .inr (.inr ⟨ht, hw, rfl⟩)

theorem allBytes_eq_true {c : Config} {p : Nat → Bool} {a : Word} {n : Nat} :
    allBytes c p a n = true ↔ ∀ k < n, p (byteAddr c a k) = true := by
  simp [allBytes, List.all_eq_true]

theorem allBytes_eq_false {c : Config} {p : Nat → Bool} {a : Word} {n : Nat} :
    allBytes c p a n = false ↔ ∃ k < n, p (byteAddr c a k) = false := by
  simp [allBytes]

theorem touchesCode_eq_false {c : Config} {a : Word} {n : Nat} :
    touchesCode c a n = false ↔
      ∀ k < n, writableAt c (byteAddr c a k) = true → codeAt c (byteAddr c a k) = false := by
  simp [touchesCode, someByte]

theorem isAligned_iff {a : Word} {n : Nat} : isAligned a n = true ↔ a.toNat % n = 0 := by simp [isAligned]

theorem misalignedTraps_eq_false {c : Config} {a : Word} {n : Nat} :
    misalignedTraps c false a n = false ↔ a.toNat % n = 0 ∨ c.misaligned = .split := by
  unfold misalignedTraps isAligned
  cases c.misaligned <;> simp

/-- A load completes when the access is aligned or split and every byte is readable and has a value. -/
theorem loadThen_of_loads {s : State} {strict : Bool} {a v : Word} {n : Nat} {k : Word → State} (hn : n ≤ 8)
    (ha : misalignedTraps s.cfg strict a n = false) (hl : Loads s a n v) :
    loadThen s strict a n k = .next (k ((v.setWidth (8 * n)).setWidth 64)) := by
  have hr : allBytes s.cfg (readableAt s.cfg) a n = true := allBytes_eq_true.2 fun j hj => (hl j hj).1
  have hv := readBytes_of_bytes (c := s.cfg) (m := s.mem) (a := a) (v := v) hn fun j hj => (hl j hj).2
  simp [loadThen, loadAccess, ha, hr, hv]

/-- A store completes when the access is aligned or split and every byte is writable and not in `CODE`. -/
theorem storeThen_of_storable {s : State} {a v : Word} {n : Nat} {k : State → State}
    (ha : misalignedTraps s.cfg false a n = false) (hs : Storable s a n) :
    storeThen s a v n k = .next (k (storeBytes s a v n)) := by
  have hw : allBytes s.cfg (writableAt s.cfg) a n = true := allBytes_eq_true.2 fun j hj => (hs j hj).1
  have hc : touchesCode s.cfg a n = false := touchesCode_eq_false.2 fun j hj _ => (hs j hj).2
  simp [storeThen, ha, hw, hc]

/-! ### The frames of the instructions (R109, R110, R155, R303) -/

/-- All that `present` can answer. -/
theorem present_cases (i : Instr) (s : State) (k : Out) :
    (i.presentIn s.cfg = true ∧ present i s k = k) ∨ (i.presentIn s.cfg = false ∧ present i s k = illegal i s) := by
  unfold present; cases i.presentIn s.cfg <;> simp

theorem present_next {i : Instr} {s t : State} {k : Out} (h : present i s k = .next t) :
    t = trapEntry .illegalInstruction ((encode i).setWidth 64) s ∨ (i.presentIn s.cfg = true ∧ k = .next t) := by
  obtain ⟨hp, h1⟩ | ⟨-, h1⟩ := present_cases i s k <;> rw [h1] at h
  · exact .inr ⟨hp, h⟩
  · exact .inl (illegal_next h).2

/-- All that `fpFrame` can answer. -/
theorem fpFrame_cases (i : Instr) (s : State) (k : Out) :
    (i.presentIn s.cfg = true ∧ s.mstatus.fs ≠ 0 ∧ fpFrame i s k = k) ∨
    ((i.presentIn s.cfg = false ∨ s.mstatus.fs = 0) ∧ fpFrame i s k = illegal i s) := by
  unfold fpFrame present
  by_cases h : s.mstatus.fs = 0#2 <;> cases i.presentIn s.cfg <;> simp [h]

theorem fpFrame_next {i : Instr} {s t : State} {k : Out} (h : fpFrame i s k = .next t) :
    t = trapEntry .illegalInstruction ((encode i).setWidth 64) s ∨
      (i.presentIn s.cfg = true ∧ s.mstatus.fs ≠ 0 ∧ k = .next t) := by
  obtain ⟨hp, hf, h1⟩ | ⟨-, h1⟩ := fpFrame_cases i s k <;> rw [h1] at h
  · exact .inr ⟨hp, hf, h⟩
  · exact .inl (illegal_next h).2

theorem fpFrame_of_ready {i : Instr} {s : State} {k : Out} (hp : i.presentIn s.cfg = true)
    (hf : s.mstatus.fs ≠ 0) : fpFrame i s k = k := by
  have hf' : s.mstatus.fs ≠ 0#2 := hf
  simp [fpFrame, present, hp, hf']

/-- What a rounded instruction that answers a next state did: it took an exception, or its meaning ran at a mode. -/
theorem fpRounded_next {i : Instr} {rm : BitVec 3} {s t : State} {k : RoundingMode → Out}
    (h : fpRounded i rm s k = .next t) :
    t = trapEntry .illegalInstruction ((encode i).setWidth 64) s ∨
      (i.presentIn s.cfg = true ∧ s.mstatus.fs ≠ 0 ∧
        ∃ mode, resolveRm rm (fcsrFrm s.fcsr) = some mode ∧ k mode = .next t) := by
  obtain h1 | ⟨hp, hf, h1⟩ := fpFrame_next h
  · exact .inl h1
  · split at h1
    · next mode hm => exact .inr ⟨hp, hf, mode, hm, h1⟩
    · exact .inl (illegal_next h1).2

theorem fpRounded_of_ready {i : Instr} {rm : BitVec 3} {s : State} {k : RoundingMode → Out} {mode : RoundingMode}
    (hp : i.presentIn s.cfg = true) (hf : s.mstatus.fs ≠ 0) (hm : resolveRm rm (fcsrFrm s.fcsr) = some mode) :
    fpRounded i rm s k = k mode := by
  simp [fpRounded, fpFrame_of_ready hp hf, hm]

/-- All that `csrFrame` can answer. -/
theorem csrFrame_cases (i : Instr) (n : BitVec 12) (s : State) (k : Csr → Out) :
    (csrOfNum n = none ∧ csrFrame i n s k = .refused (.unmodelledCsr n)) ∨
    ∃ r, csrOfNum n = some r ∧
      (((csrPrivileged n s.priv = false ∨ (r.isFp = true ∧ s.mstatus.fs = 0)) ∧ csrFrame i n s k = illegal i s) ∨
        (csrPrivileged n s.priv = true ∧ (r.isFp = true → s.mstatus.fs ≠ 0) ∧ csrFrame i n s k = k r)) := by
  unfold csrFrame
  cases csrOfNum n with
  | none => simp
  | some r =>
    refine .inr ⟨r, rfl, ?_⟩
    by_cases h : s.mstatus.fs = 0#2 <;> cases csrPrivileged n s.priv <;> cases hb : r.isFp <;> simp [h, hb]

theorem csrFrame_next {i : Instr} {n : BitVec 12} {s t : State} {k : Csr → Out} (h : csrFrame i n s k = .next t) :
    t = trapEntry .illegalInstruction ((encode i).setWidth 64) s ∨
      ∃ r, csrOfNum n = some r ∧ csrPrivileged n s.priv = true ∧ (r.isFp = true → s.mstatus.fs ≠ 0) ∧ k r = .next t := by
  obtain ⟨-, h1⟩ | ⟨r, hr, ⟨-, h1⟩ | ⟨hp, hf, h1⟩⟩ := csrFrame_cases i n s k <;> rw [h1] at h
  · cases h
  · exact .inl (illegal_next h).2
  · exact .inr ⟨r, hr, hp, hf, h⟩

/-- All that a jump can answer (R320, R321, R322). -/
theorem jumpAndLink_cases (rd : XReg) (target : Word) (s : State) :
    (pcAligned s.cfg target = true ∧ jumpAndLink rd target s = .next (jumpTo target (writeX rd (nextPc s) s))) ∨
    (pcAligned s.cfg target = false ∧ jumpAndLink rd target s = raise .instructionAddressMisaligned target s) := by
  unfold jumpAndLink; cases pcAligned s.cfg target <;> simp

/-! ### What the ends of the instructions leave -/

theorem finishF_wrote {rd : FReg} {v : Word} {fl : FFlags} {s : State} (hv : fitF s.cfg v = v) :
    WroteF rd v fl s (finishF rd v fl s) where
  f := fun i => by simp [finishF, readF_writeF, hv]
  x := fun i => by simp [finishF]
  flags := by simp [finishF, Accrued]
  fs := by simp [finishF]
  mstatus := ⟨by simp [finishF], by simp [finishF], by simp [finishF]⟩
  trap := ⟨by simp [finishF], by simp [finishF], by simp [finishF], by simp [finishF], by simp [finishF], by simp [finishF]⟩
  reservation := by simp [finishF]
  mem := fun n => by simp [finishF]
  pc := by rw [finishF, readPc_advance]; exact nextPc_congr (by simp) (by simp)

/-- The state before the write of `x[rd]` in `finishX`. -/
theorem finishX_wrote {rd : XReg} {v : Word} {fl : FFlags} {s : State} (hv : fit s.cfg v = v) :
    WroteX rd v fl s (finishX rd v fl s) := by
  unfold finishX
  by_cases h : fcsrAccrue s.fcsr fl = s.fcsr
  · have hf : fcsrFlags s.fcsr ||| fl = fcsrFlags s.fcsr := by rw [← fcsrFlags_accrue, h]
    rw [if_pos h]
    exact {
      x := fun i => by simp [readX_writeX, hv]
      f := fun i => by simp
      flags := by simp [Accrued, hf]
      fs := ⟨fun hne => absurd (by simp) hne, fun _ => by
        simp only [advance_mstatus, writeX_mstatus, settleFs_mstatus, drawnFs]; split <;> simp⟩
      mstatus := ⟨by simp, by simp, by simp⟩
      trap := ⟨by simp, by simp, by simp, by simp, by simp, by simp⟩
      reservation := by simp
      mem := fun n => by simp
      pc := by rw [readPc_advance]; exact nextPc_congr (by simp) (by simp) }
  · rw [if_neg h]
    exact {
      x := fun i => by simp [readX_writeX, hv]
      f := fun i => by simp
      flags := by simp [Accrued]
      fs := ⟨fun _ => by simp, fun _ => by simp⟩
      mstatus := ⟨by simp, by simp, by simp⟩
      trap := ⟨by simp, by simp, by simp, by simp, by simp, by simp⟩
      reservation := by simp
      mem := fun n => by simp
      pc := by rw [readPc_advance]; exact nextPc_congr (by simp) (by simp) }

theorem finishInt_wrote {rd : XReg} {v : Word} {s : State} (hv : fit s.cfg v = v) :
    WroteInt rd v s.reservation (nextPc s) s (finishInt rd v s) where
  x := fun i => by simp [finishInt, readX_writeX, hv]
  f := fun i => by simp [finishInt]
  fcsr := by simp [finishInt]
  mstatus := by simp [finishInt]
  trap := ⟨by simp [finishInt], by simp [finishInt], by simp [finishInt], by simp [finishInt], by simp [finishInt],
    by simp [finishInt]⟩
  reservation := by simp [finishInt]
  mem := fun n => by simp [finishInt]
  pc := by rw [finishInt, readPc_advance]; exact nextPc_congr (by simp) (by simp)

/-- R61: after a store, the bytes of the access are those of the value and the others are as before. -/
theorem storeBytes_stored {s : State} {a v : Word} {n : Nat} (hn : n ≤ 8) :
    (∀ k < n, memByte (storeBytes s a v n).mem (byteAddr s.cfg a k) = some (byteOf v k)) ∧
      SameMemBut a n s (storeBytes s a v n) :=
  ⟨fun _ hk => memByte_writeBytes_of_take rfl hk hn, fun _ hp => memByte_writeBytes_of_not fun k hk _ => hp k hk⟩

end Sys2Proof.Machine
end

