-- ==== Sys2Proof/Laws/PerInstr.lean ====
section
/-! SUPPORT. The lemmas for every instruction: one family, with one lemma for each constructor of `Instr`. -/

/-- R90: the word of an instruction has bits 1:0 equal to `11` and bits 4:2 other than `111`, so it is neither a 16-bit
parcel nor the start of a longer instruction. -/
def Sys2Proof.Laws.Length32.Statement (i : Sys2Proof.Instr) : Prop :=
  (Sys2Proof.opcodeOf (Sys2Proof.encode i)).extractLsb' 0 2 = 0b11#2 ∧
    (Sys2Proof.opcodeOf (Sys2Proof.encode i)).extractLsb' 2 3 ≠ 0b111#3

namespace Sys2Proof.Laws

/-- The opcode of an instruction decides its `Length32` statement. -/
theorem length32_of_opcode {i : Instr} {op : BitVec 7} (h : opcodeOf (encode i) = op)
    (h1 : op.extractLsb' 0 2 = 0b11#2 ∧ op.extractLsb' 2 3 ≠ 0b111#3) : Length32.Statement i := by
  unfold Length32.Statement; rwa [h]

end Sys2Proof.Laws

theorem Sys2Proof.Laws.Length32.faddS (rd rs1 rs2 : Sys2Proof.FReg) (rm : BitVec 3) :
    Sys2Proof.Laws.Length32.Statement (.faddS rd rs1 rs2 rm) :=
  Sys2Proof.Laws.length32_of_opcode (Sys2Proof.opcodeOf_encR _ _ _ _ _ _) (by decide)
theorem Sys2Proof.Laws.Length32.faddD (rd rs1 rs2 : Sys2Proof.FReg) (rm : BitVec 3) :
    Sys2Proof.Laws.Length32.Statement (.faddD rd rs1 rs2 rm) :=
  Sys2Proof.Laws.length32_of_opcode (Sys2Proof.opcodeOf_encR _ _ _ _ _ _) (by decide)
theorem Sys2Proof.Laws.Length32.fsubS (rd rs1 rs2 : Sys2Proof.FReg) (rm : BitVec 3) :
    Sys2Proof.Laws.Length32.Statement (.fsubS rd rs1 rs2 rm) :=
  Sys2Proof.Laws.length32_of_opcode (Sys2Proof.opcodeOf_encR _ _ _ _ _ _) (by decide)
theorem Sys2Proof.Laws.Length32.fsubD (rd rs1 rs2 : Sys2Proof.FReg) (rm : BitVec 3) :
    Sys2Proof.Laws.Length32.Statement (.fsubD rd rs1 rs2 rm) :=
  Sys2Proof.Laws.length32_of_opcode (Sys2Proof.opcodeOf_encR _ _ _ _ _ _) (by decide)
theorem Sys2Proof.Laws.Length32.fmulS (rd rs1 rs2 : Sys2Proof.FReg) (rm : BitVec 3) :
    Sys2Proof.Laws.Length32.Statement (.fmulS rd rs1 rs2 rm) :=
  Sys2Proof.Laws.length32_of_opcode (Sys2Proof.opcodeOf_encR _ _ _ _ _ _) (by decide)
theorem Sys2Proof.Laws.Length32.fmulD (rd rs1 rs2 : Sys2Proof.FReg) (rm : BitVec 3) :
    Sys2Proof.Laws.Length32.Statement (.fmulD rd rs1 rs2 rm) :=
  Sys2Proof.Laws.length32_of_opcode (Sys2Proof.opcodeOf_encR _ _ _ _ _ _) (by decide)
theorem Sys2Proof.Laws.Length32.fdivS (rd rs1 rs2 : Sys2Proof.FReg) (rm : BitVec 3) :
    Sys2Proof.Laws.Length32.Statement (.fdivS rd rs1 rs2 rm) :=
  Sys2Proof.Laws.length32_of_opcode (Sys2Proof.opcodeOf_encR _ _ _ _ _ _) (by decide)
theorem Sys2Proof.Laws.Length32.fdivD (rd rs1 rs2 : Sys2Proof.FReg) (rm : BitVec 3) :
    Sys2Proof.Laws.Length32.Statement (.fdivD rd rs1 rs2 rm) :=
  Sys2Proof.Laws.length32_of_opcode (Sys2Proof.opcodeOf_encR _ _ _ _ _ _) (by decide)
theorem Sys2Proof.Laws.Length32.fsqrtS (rd rs1 : Sys2Proof.FReg) (rm : BitVec 3) :
    Sys2Proof.Laws.Length32.Statement (.fsqrtS rd rs1 rm) :=
  Sys2Proof.Laws.length32_of_opcode (Sys2Proof.opcodeOf_encR _ _ _ _ _ _) (by decide)
theorem Sys2Proof.Laws.Length32.fsqrtD (rd rs1 : Sys2Proof.FReg) (rm : BitVec 3) :
    Sys2Proof.Laws.Length32.Statement (.fsqrtD rd rs1 rm) :=
  Sys2Proof.Laws.length32_of_opcode (Sys2Proof.opcodeOf_encR _ _ _ _ _ _) (by decide)
theorem Sys2Proof.Laws.Length32.fminS (rd rs1 rs2 : Sys2Proof.FReg) :
    Sys2Proof.Laws.Length32.Statement (.fminS rd rs1 rs2) :=
  Sys2Proof.Laws.length32_of_opcode (Sys2Proof.opcodeOf_encR _ _ _ _ _ _) (by decide)
theorem Sys2Proof.Laws.Length32.fminD (rd rs1 rs2 : Sys2Proof.FReg) :
    Sys2Proof.Laws.Length32.Statement (.fminD rd rs1 rs2) :=
  Sys2Proof.Laws.length32_of_opcode (Sys2Proof.opcodeOf_encR _ _ _ _ _ _) (by decide)
theorem Sys2Proof.Laws.Length32.fmaxS (rd rs1 rs2 : Sys2Proof.FReg) :
    Sys2Proof.Laws.Length32.Statement (.fmaxS rd rs1 rs2) :=
  Sys2Proof.Laws.length32_of_opcode (Sys2Proof.opcodeOf_encR _ _ _ _ _ _) (by decide)
theorem Sys2Proof.Laws.Length32.fmaxD (rd rs1 rs2 : Sys2Proof.FReg) :
    Sys2Proof.Laws.Length32.Statement (.fmaxD rd rs1 rs2) :=
  Sys2Proof.Laws.length32_of_opcode (Sys2Proof.opcodeOf_encR _ _ _ _ _ _) (by decide)
theorem Sys2Proof.Laws.Length32.fmaddS (rd rs1 rs2 rs3 : Sys2Proof.FReg) (rm : BitVec 3) :
    Sys2Proof.Laws.Length32.Statement (.fmaddS rd rs1 rs2 rs3 rm) :=
  Sys2Proof.Laws.length32_of_opcode (Sys2Proof.opcodeOf_encR4 _ _ _ _ _ _ _) (by decide)
theorem Sys2Proof.Laws.Length32.fmaddD (rd rs1 rs2 rs3 : Sys2Proof.FReg) (rm : BitVec 3) :
    Sys2Proof.Laws.Length32.Statement (.fmaddD rd rs1 rs2 rs3 rm) :=
  Sys2Proof.Laws.length32_of_opcode (Sys2Proof.opcodeOf_encR4 _ _ _ _ _ _ _) (by decide)
theorem Sys2Proof.Laws.Length32.fmsubS (rd rs1 rs2 rs3 : Sys2Proof.FReg) (rm : BitVec 3) :
    Sys2Proof.Laws.Length32.Statement (.fmsubS rd rs1 rs2 rs3 rm) :=
  Sys2Proof.Laws.length32_of_opcode (Sys2Proof.opcodeOf_encR4 _ _ _ _ _ _ _) (by decide)
theorem Sys2Proof.Laws.Length32.fmsubD (rd rs1 rs2 rs3 : Sys2Proof.FReg) (rm : BitVec 3) :
    Sys2Proof.Laws.Length32.Statement (.fmsubD rd rs1 rs2 rs3 rm) :=
  Sys2Proof.Laws.length32_of_opcode (Sys2Proof.opcodeOf_encR4 _ _ _ _ _ _ _) (by decide)
theorem Sys2Proof.Laws.Length32.fnmsubS (rd rs1 rs2 rs3 : Sys2Proof.FReg) (rm : BitVec 3) :
    Sys2Proof.Laws.Length32.Statement (.fnmsubS rd rs1 rs2 rs3 rm) :=
  Sys2Proof.Laws.length32_of_opcode (Sys2Proof.opcodeOf_encR4 _ _ _ _ _ _ _) (by decide)
theorem Sys2Proof.Laws.Length32.fnmsubD (rd rs1 rs2 rs3 : Sys2Proof.FReg) (rm : BitVec 3) :
    Sys2Proof.Laws.Length32.Statement (.fnmsubD rd rs1 rs2 rs3 rm) :=
  Sys2Proof.Laws.length32_of_opcode (Sys2Proof.opcodeOf_encR4 _ _ _ _ _ _ _) (by decide)
theorem Sys2Proof.Laws.Length32.fnmaddS (rd rs1 rs2 rs3 : Sys2Proof.FReg) (rm : BitVec 3) :
    Sys2Proof.Laws.Length32.Statement (.fnmaddS rd rs1 rs2 rs3 rm) :=
  Sys2Proof.Laws.length32_of_opcode (Sys2Proof.opcodeOf_encR4 _ _ _ _ _ _ _) (by decide)
theorem Sys2Proof.Laws.Length32.fnmaddD (rd rs1 rs2 rs3 : Sys2Proof.FReg) (rm : BitVec 3) :
    Sys2Proof.Laws.Length32.Statement (.fnmaddD rd rs1 rs2 rs3 rm) :=
  Sys2Proof.Laws.length32_of_opcode (Sys2Proof.opcodeOf_encR4 _ _ _ _ _ _ _) (by decide)
theorem Sys2Proof.Laws.Length32.feqS (rd : Sys2Proof.XReg) (rs1 rs2 : Sys2Proof.FReg) :
    Sys2Proof.Laws.Length32.Statement (.feqS rd rs1 rs2) :=
  Sys2Proof.Laws.length32_of_opcode (Sys2Proof.opcodeOf_encR _ _ _ _ _ _) (by decide)
theorem Sys2Proof.Laws.Length32.feqD (rd : Sys2Proof.XReg) (rs1 rs2 : Sys2Proof.FReg) :
    Sys2Proof.Laws.Length32.Statement (.feqD rd rs1 rs2) :=
  Sys2Proof.Laws.length32_of_opcode (Sys2Proof.opcodeOf_encR _ _ _ _ _ _) (by decide)
theorem Sys2Proof.Laws.Length32.fltS (rd : Sys2Proof.XReg) (rs1 rs2 : Sys2Proof.FReg) :
    Sys2Proof.Laws.Length32.Statement (.fltS rd rs1 rs2) :=
  Sys2Proof.Laws.length32_of_opcode (Sys2Proof.opcodeOf_encR _ _ _ _ _ _) (by decide)
theorem Sys2Proof.Laws.Length32.fltD (rd : Sys2Proof.XReg) (rs1 rs2 : Sys2Proof.FReg) :
    Sys2Proof.Laws.Length32.Statement (.fltD rd rs1 rs2) :=
  Sys2Proof.Laws.length32_of_opcode (Sys2Proof.opcodeOf_encR _ _ _ _ _ _) (by decide)
theorem Sys2Proof.Laws.Length32.fleS (rd : Sys2Proof.XReg) (rs1 rs2 : Sys2Proof.FReg) :
    Sys2Proof.Laws.Length32.Statement (.fleS rd rs1 rs2) :=
  Sys2Proof.Laws.length32_of_opcode (Sys2Proof.opcodeOf_encR _ _ _ _ _ _) (by decide)
theorem Sys2Proof.Laws.Length32.fleD (rd : Sys2Proof.XReg) (rs1 rs2 : Sys2Proof.FReg) :
    Sys2Proof.Laws.Length32.Statement (.fleD rd rs1 rs2) :=
  Sys2Proof.Laws.length32_of_opcode (Sys2Proof.opcodeOf_encR _ _ _ _ _ _) (by decide)
theorem Sys2Proof.Laws.Length32.fclassS (rd : Sys2Proof.XReg) (rs1 : Sys2Proof.FReg) :
    Sys2Proof.Laws.Length32.Statement (.fclassS rd rs1) :=
  Sys2Proof.Laws.length32_of_opcode (Sys2Proof.opcodeOf_encR _ _ _ _ _ _) (by decide)
theorem Sys2Proof.Laws.Length32.fclassD (rd : Sys2Proof.XReg) (rs1 : Sys2Proof.FReg) :
    Sys2Proof.Laws.Length32.Statement (.fclassD rd rs1) :=
  Sys2Proof.Laws.length32_of_opcode (Sys2Proof.opcodeOf_encR _ _ _ _ _ _) (by decide)
theorem Sys2Proof.Laws.Length32.fcvtWS (rd : Sys2Proof.XReg) (rs1 : Sys2Proof.FReg) (rm : BitVec 3) :
    Sys2Proof.Laws.Length32.Statement (.fcvtWS rd rs1 rm) :=
  Sys2Proof.Laws.length32_of_opcode (Sys2Proof.opcodeOf_encR _ _ _ _ _ _) (by decide)
theorem Sys2Proof.Laws.Length32.fcvtWuS (rd : Sys2Proof.XReg) (rs1 : Sys2Proof.FReg) (rm : BitVec 3) :
    Sys2Proof.Laws.Length32.Statement (.fcvtWuS rd rs1 rm) :=
  Sys2Proof.Laws.length32_of_opcode (Sys2Proof.opcodeOf_encR _ _ _ _ _ _) (by decide)
theorem Sys2Proof.Laws.Length32.fcvtLS (rd : Sys2Proof.XReg) (rs1 : Sys2Proof.FReg) (rm : BitVec 3) :
    Sys2Proof.Laws.Length32.Statement (.fcvtLS rd rs1 rm) :=
  Sys2Proof.Laws.length32_of_opcode (Sys2Proof.opcodeOf_encR _ _ _ _ _ _) (by decide)
theorem Sys2Proof.Laws.Length32.fcvtLuS (rd : Sys2Proof.XReg) (rs1 : Sys2Proof.FReg) (rm : BitVec 3) :
    Sys2Proof.Laws.Length32.Statement (.fcvtLuS rd rs1 rm) :=
  Sys2Proof.Laws.length32_of_opcode (Sys2Proof.opcodeOf_encR _ _ _ _ _ _) (by decide)
theorem Sys2Proof.Laws.Length32.fcvtWD (rd : Sys2Proof.XReg) (rs1 : Sys2Proof.FReg) (rm : BitVec 3) :
    Sys2Proof.Laws.Length32.Statement (.fcvtWD rd rs1 rm) :=
  Sys2Proof.Laws.length32_of_opcode (Sys2Proof.opcodeOf_encR _ _ _ _ _ _) (by decide)
theorem Sys2Proof.Laws.Length32.fcvtWuD (rd : Sys2Proof.XReg) (rs1 : Sys2Proof.FReg) (rm : BitVec 3) :
    Sys2Proof.Laws.Length32.Statement (.fcvtWuD rd rs1 rm) :=
  Sys2Proof.Laws.length32_of_opcode (Sys2Proof.opcodeOf_encR _ _ _ _ _ _) (by decide)
theorem Sys2Proof.Laws.Length32.fcvtLD (rd : Sys2Proof.XReg) (rs1 : Sys2Proof.FReg) (rm : BitVec 3) :
    Sys2Proof.Laws.Length32.Statement (.fcvtLD rd rs1 rm) :=
  Sys2Proof.Laws.length32_of_opcode (Sys2Proof.opcodeOf_encR _ _ _ _ _ _) (by decide)
theorem Sys2Proof.Laws.Length32.fcvtLuD (rd : Sys2Proof.XReg) (rs1 : Sys2Proof.FReg) (rm : BitVec 3) :
    Sys2Proof.Laws.Length32.Statement (.fcvtLuD rd rs1 rm) :=
  Sys2Proof.Laws.length32_of_opcode (Sys2Proof.opcodeOf_encR _ _ _ _ _ _) (by decide)
theorem Sys2Proof.Laws.Length32.fcvtSW (rd : Sys2Proof.FReg) (rs1 : Sys2Proof.XReg) (rm : BitVec 3) :
    Sys2Proof.Laws.Length32.Statement (.fcvtSW rd rs1 rm) :=
  Sys2Proof.Laws.length32_of_opcode (Sys2Proof.opcodeOf_encR _ _ _ _ _ _) (by decide)
theorem Sys2Proof.Laws.Length32.fcvtSWu (rd : Sys2Proof.FReg) (rs1 : Sys2Proof.XReg) (rm : BitVec 3) :
    Sys2Proof.Laws.Length32.Statement (.fcvtSWu rd rs1 rm) :=
  Sys2Proof.Laws.length32_of_opcode (Sys2Proof.opcodeOf_encR _ _ _ _ _ _) (by decide)
theorem Sys2Proof.Laws.Length32.fcvtSL (rd : Sys2Proof.FReg) (rs1 : Sys2Proof.XReg) (rm : BitVec 3) :
    Sys2Proof.Laws.Length32.Statement (.fcvtSL rd rs1 rm) :=
  Sys2Proof.Laws.length32_of_opcode (Sys2Proof.opcodeOf_encR _ _ _ _ _ _) (by decide)
theorem Sys2Proof.Laws.Length32.fcvtSLu (rd : Sys2Proof.FReg) (rs1 : Sys2Proof.XReg) (rm : BitVec 3) :
    Sys2Proof.Laws.Length32.Statement (.fcvtSLu rd rs1 rm) :=
  Sys2Proof.Laws.length32_of_opcode (Sys2Proof.opcodeOf_encR _ _ _ _ _ _) (by decide)
theorem Sys2Proof.Laws.Length32.fcvtDW (rd : Sys2Proof.FReg) (rs1 : Sys2Proof.XReg) (rm : BitVec 3) :
    Sys2Proof.Laws.Length32.Statement (.fcvtDW rd rs1 rm) :=
  Sys2Proof.Laws.length32_of_opcode (Sys2Proof.opcodeOf_encR _ _ _ _ _ _) (by decide)
theorem Sys2Proof.Laws.Length32.fcvtDWu (rd : Sys2Proof.FReg) (rs1 : Sys2Proof.XReg) (rm : BitVec 3) :
    Sys2Proof.Laws.Length32.Statement (.fcvtDWu rd rs1 rm) :=
  Sys2Proof.Laws.length32_of_opcode (Sys2Proof.opcodeOf_encR _ _ _ _ _ _) (by decide)
theorem Sys2Proof.Laws.Length32.fcvtDL (rd : Sys2Proof.FReg) (rs1 : Sys2Proof.XReg) (rm : BitVec 3) :
    Sys2Proof.Laws.Length32.Statement (.fcvtDL rd rs1 rm) :=
  Sys2Proof.Laws.length32_of_opcode (Sys2Proof.opcodeOf_encR _ _ _ _ _ _) (by decide)
theorem Sys2Proof.Laws.Length32.fcvtDLu (rd : Sys2Proof.FReg) (rs1 : Sys2Proof.XReg) (rm : BitVec 3) :
    Sys2Proof.Laws.Length32.Statement (.fcvtDLu rd rs1 rm) :=
  Sys2Proof.Laws.length32_of_opcode (Sys2Proof.opcodeOf_encR _ _ _ _ _ _) (by decide)
theorem Sys2Proof.Laws.Length32.fcvtSD (rd rs1 : Sys2Proof.FReg) (rm : BitVec 3) :
    Sys2Proof.Laws.Length32.Statement (.fcvtSD rd rs1 rm) :=
  Sys2Proof.Laws.length32_of_opcode (Sys2Proof.opcodeOf_encR _ _ _ _ _ _) (by decide)
theorem Sys2Proof.Laws.Length32.fcvtDS (rd rs1 : Sys2Proof.FReg) (rm : BitVec 3) :
    Sys2Proof.Laws.Length32.Statement (.fcvtDS rd rs1 rm) :=
  Sys2Proof.Laws.length32_of_opcode (Sys2Proof.opcodeOf_encR _ _ _ _ _ _) (by decide)
theorem Sys2Proof.Laws.Length32.fmvXW (rd : Sys2Proof.XReg) (rs1 : Sys2Proof.FReg) :
    Sys2Proof.Laws.Length32.Statement (.fmvXW rd rs1) :=
  Sys2Proof.Laws.length32_of_opcode (Sys2Proof.opcodeOf_encR _ _ _ _ _ _) (by decide)
theorem Sys2Proof.Laws.Length32.fmvWX (rd : Sys2Proof.FReg) (rs1 : Sys2Proof.XReg) :
    Sys2Proof.Laws.Length32.Statement (.fmvWX rd rs1) :=
  Sys2Proof.Laws.length32_of_opcode (Sys2Proof.opcodeOf_encR _ _ _ _ _ _) (by decide)
theorem Sys2Proof.Laws.Length32.fmvXD (rd : Sys2Proof.XReg) (rs1 : Sys2Proof.FReg) :
    Sys2Proof.Laws.Length32.Statement (.fmvXD rd rs1) :=
  Sys2Proof.Laws.length32_of_opcode (Sys2Proof.opcodeOf_encR _ _ _ _ _ _) (by decide)
theorem Sys2Proof.Laws.Length32.fmvDX (rd : Sys2Proof.FReg) (rs1 : Sys2Proof.XReg) :
    Sys2Proof.Laws.Length32.Statement (.fmvDX rd rs1) :=
  Sys2Proof.Laws.length32_of_opcode (Sys2Proof.opcodeOf_encR _ _ _ _ _ _) (by decide)
theorem Sys2Proof.Laws.Length32.fence (fm pred succ : BitVec 4) (rs1 rd : Sys2Proof.XReg) :
    Sys2Proof.Laws.Length32.Statement (.fence fm pred succ rs1 rd) :=
  Sys2Proof.Laws.length32_of_opcode (Sys2Proof.opcodeOf_encFence _ _ _ _ _ _ _) (by decide)
theorem Sys2Proof.Laws.Length32.fenceI (imm : BitVec 12) (rs1 rd : Sys2Proof.XReg) :
    Sys2Proof.Laws.Length32.Statement (.fenceI imm rs1 rd) :=
  Sys2Proof.Laws.length32_of_opcode (Sys2Proof.opcodeOf_encI _ _ _ _ _) (by decide)
theorem Sys2Proof.Laws.Length32.flw (rd : Sys2Proof.FReg) (rs1 : Sys2Proof.XReg) (imm : BitVec 12) :
    Sys2Proof.Laws.Length32.Statement (.flw rd rs1 imm) :=
  Sys2Proof.Laws.length32_of_opcode (Sys2Proof.opcodeOf_encI _ _ _ _ _) (by decide)
theorem Sys2Proof.Laws.Length32.fld (rd : Sys2Proof.FReg) (rs1 : Sys2Proof.XReg) (imm : BitVec 12) :
    Sys2Proof.Laws.Length32.Statement (.fld rd rs1 imm) :=
  Sys2Proof.Laws.length32_of_opcode (Sys2Proof.opcodeOf_encI _ _ _ _ _) (by decide)
theorem Sys2Proof.Laws.Length32.fsw (rs2 : Sys2Proof.FReg) (rs1 : Sys2Proof.XReg) (imm : BitVec 12) :
    Sys2Proof.Laws.Length32.Statement (.fsw rs2 rs1 imm) :=
  Sys2Proof.Laws.length32_of_opcode (Sys2Proof.opcodeOf_encS _ _ _ _ _) (by decide)
theorem Sys2Proof.Laws.Length32.fsd (rs2 : Sys2Proof.FReg) (rs1 : Sys2Proof.XReg) (imm : BitVec 12) :
    Sys2Proof.Laws.Length32.Statement (.fsd rs2 rs1 imm) :=
  Sys2Proof.Laws.length32_of_opcode (Sys2Proof.opcodeOf_encS _ _ _ _ _) (by decide)
theorem Sys2Proof.Laws.Length32.fsgnjS (rd rs1 rs2 : Sys2Proof.FReg) :
    Sys2Proof.Laws.Length32.Statement (.fsgnjS rd rs1 rs2) :=
  Sys2Proof.Laws.length32_of_opcode (Sys2Proof.opcodeOf_encR _ _ _ _ _ _) (by decide)
theorem Sys2Proof.Laws.Length32.fsgnjD (rd rs1 rs2 : Sys2Proof.FReg) :
    Sys2Proof.Laws.Length32.Statement (.fsgnjD rd rs1 rs2) :=
  Sys2Proof.Laws.length32_of_opcode (Sys2Proof.opcodeOf_encR _ _ _ _ _ _) (by decide)
theorem Sys2Proof.Laws.Length32.fsgnjnS (rd rs1 rs2 : Sys2Proof.FReg) :
    Sys2Proof.Laws.Length32.Statement (.fsgnjnS rd rs1 rs2) :=
  Sys2Proof.Laws.length32_of_opcode (Sys2Proof.opcodeOf_encR _ _ _ _ _ _) (by decide)
theorem Sys2Proof.Laws.Length32.fsgnjnD (rd rs1 rs2 : Sys2Proof.FReg) :
    Sys2Proof.Laws.Length32.Statement (.fsgnjnD rd rs1 rs2) :=
  Sys2Proof.Laws.length32_of_opcode (Sys2Proof.opcodeOf_encR _ _ _ _ _ _) (by decide)
theorem Sys2Proof.Laws.Length32.fsgnjxS (rd rs1 rs2 : Sys2Proof.FReg) :
    Sys2Proof.Laws.Length32.Statement (.fsgnjxS rd rs1 rs2) :=
  Sys2Proof.Laws.length32_of_opcode (Sys2Proof.opcodeOf_encR _ _ _ _ _ _) (by decide)
theorem Sys2Proof.Laws.Length32.fsgnjxD (rd rs1 rs2 : Sys2Proof.FReg) :
    Sys2Proof.Laws.Length32.Statement (.fsgnjxD rd rs1 rs2) :=
  Sys2Proof.Laws.length32_of_opcode (Sys2Proof.opcodeOf_encR _ _ _ _ _ _) (by decide)
theorem Sys2Proof.Laws.Length32.csrrw (rd rs1 : Sys2Proof.XReg) (csr : BitVec 12) :
    Sys2Proof.Laws.Length32.Statement (.csrrw rd rs1 csr) :=
  Sys2Proof.Laws.length32_of_opcode (Sys2Proof.opcodeOf_encI _ _ _ _ _) (by decide)
theorem Sys2Proof.Laws.Length32.csrrs (rd rs1 : Sys2Proof.XReg) (csr : BitVec 12) :
    Sys2Proof.Laws.Length32.Statement (.csrrs rd rs1 csr) :=
  Sys2Proof.Laws.length32_of_opcode (Sys2Proof.opcodeOf_encI _ _ _ _ _) (by decide)
theorem Sys2Proof.Laws.Length32.jal (rd : Sys2Proof.XReg) (off : BitVec 20) :
    Sys2Proof.Laws.Length32.Statement (.jal rd off) :=
  Sys2Proof.Laws.length32_of_opcode (Sys2Proof.opcodeOf_encJ _ _ _) (by decide)
theorem Sys2Proof.Laws.Length32.jalr (rd rs1 : Sys2Proof.XReg) (imm : BitVec 12) :
    Sys2Proof.Laws.Length32.Statement (.jalr rd rs1 imm) :=
  Sys2Proof.Laws.length32_of_opcode (Sys2Proof.opcodeOf_encI _ _ _ _ _) (by decide)
theorem Sys2Proof.Laws.Length32.lb (rd rs1 : Sys2Proof.XReg) (imm : BitVec 12) :
    Sys2Proof.Laws.Length32.Statement (.lb rd rs1 imm) :=
  Sys2Proof.Laws.length32_of_opcode (Sys2Proof.opcodeOf_encI _ _ _ _ _) (by decide)
theorem Sys2Proof.Laws.Length32.lbu (rd rs1 : Sys2Proof.XReg) (imm : BitVec 12) :
    Sys2Proof.Laws.Length32.Statement (.lbu rd rs1 imm) :=
  Sys2Proof.Laws.length32_of_opcode (Sys2Proof.opcodeOf_encI _ _ _ _ _) (by decide)
theorem Sys2Proof.Laws.Length32.lh (rd rs1 : Sys2Proof.XReg) (imm : BitVec 12) :
    Sys2Proof.Laws.Length32.Statement (.lh rd rs1 imm) :=
  Sys2Proof.Laws.length32_of_opcode (Sys2Proof.opcodeOf_encI _ _ _ _ _) (by decide)
theorem Sys2Proof.Laws.Length32.lhu (rd rs1 : Sys2Proof.XReg) (imm : BitVec 12) :
    Sys2Proof.Laws.Length32.Statement (.lhu rd rs1 imm) :=
  Sys2Proof.Laws.length32_of_opcode (Sys2Proof.opcodeOf_encI _ _ _ _ _) (by decide)
theorem Sys2Proof.Laws.Length32.lw (rd rs1 : Sys2Proof.XReg) (imm : BitVec 12) :
    Sys2Proof.Laws.Length32.Statement (.lw rd rs1 imm) :=
  Sys2Proof.Laws.length32_of_opcode (Sys2Proof.opcodeOf_encI _ _ _ _ _) (by decide)
theorem Sys2Proof.Laws.Length32.lwu (rd rs1 : Sys2Proof.XReg) (imm : BitVec 12) :
    Sys2Proof.Laws.Length32.Statement (.lwu rd rs1 imm) :=
  Sys2Proof.Laws.length32_of_opcode (Sys2Proof.opcodeOf_encI _ _ _ _ _) (by decide)
theorem Sys2Proof.Laws.Length32.ld (rd rs1 : Sys2Proof.XReg) (imm : BitVec 12) :
    Sys2Proof.Laws.Length32.Statement (.ld rd rs1 imm) :=
  Sys2Proof.Laws.length32_of_opcode (Sys2Proof.opcodeOf_encI _ _ _ _ _) (by decide)
theorem Sys2Proof.Laws.Length32.lui (rd : Sys2Proof.XReg) (imm : BitVec 20) :
    Sys2Proof.Laws.Length32.Statement (.lui rd imm) :=
  Sys2Proof.Laws.length32_of_opcode (Sys2Proof.opcodeOf_encU _ _ _) (by decide)
theorem Sys2Proof.Laws.Length32.lrW (rd rs1 : Sys2Proof.XReg) (aq rl : Bool) :
    Sys2Proof.Laws.Length32.Statement (.lrW rd rs1 aq rl) :=
  Sys2Proof.Laws.length32_of_opcode (Sys2Proof.opcodeOf_encA _ _ _ _ _ _ _ _) (by decide)
theorem Sys2Proof.Laws.Length32.lrD (rd rs1 : Sys2Proof.XReg) (aq rl : Bool) :
    Sys2Proof.Laws.Length32.Statement (.lrD rd rs1 aq rl) :=
  Sys2Proof.Laws.length32_of_opcode (Sys2Proof.opcodeOf_encA _ _ _ _ _ _ _ _) (by decide)
theorem Sys2Proof.Laws.Length32.mret :
    Sys2Proof.Laws.Length32.Statement (.mret) :=
  Sys2Proof.Laws.length32_of_opcode (Sys2Proof.opcodeOf_encR _ _ _ _ _ _) (by decide)
end

