-- ==== Sys2Proof/Laws/Step.lean ====
section
/-! SUPPORT. Everything an instruction and a step can do, said once. -/

namespace Sys2Proof.Machine

/-- The shapes of a next state: what `t` can be when `exec` answers `.next t` at `s`. -/
inductive Effect (s : State) : State → Prop
  /-- An exception. -/
  | trap (e : Exc) (tv : Word) : Effect s (trapEntry e tv s)
  /-- The access fault of a misaligned store that had written some of its bytes (R62). -/
  | splitTrap (a v : Word) (n : Nat) (hn : n ≤ 8) (hc : touchesCode s.cfg a n = false) :
      Effect s (trapEntry .storeAccessFault a (splitPartial s a v n))
  /-- A floating-point instruction that writes `f[rd]`. -/
  | toF (rd : FReg) (v : Word) (fl : FFlags) (hf : s.mstatus.fs ≠ 0) : Effect s (finishF rd v fl s)
  /-- A floating-point instruction that writes `x[rd]`. -/
  | toX (rd : XReg) (v : Word) (fl : FFlags) (hf : s.mstatus.fs ≠ 0) : Effect s (finishX rd v fl s)
  /-- An integer instruction that writes `x[rd]`. -/
  | toInt (rd : XReg) (v : Word) : Effect s (finishInt rd v s)
  /-- A load-reserved. -/
  | reserved (rd : XReg) (v a : Word) (n : Nat) (hn : n = 4 ∨ n = 8) (ha : a.toNat % n = 0) (hfit : fit s.cfg a = a) :
      Effect s (finishInt rd v (reserve a n s))
  /-- A floating-point store. -/
  | store (a v : Word) (n : Nat) (hn : n ≤ 8) (hf : s.mstatus.fs ≠ 0) (hc : touchesCode s.cfg a n = false)
      (hw : allBytes s.cfg (writableAt s.cfg) a n = true) : Effect s (advance (settleFs (storeBytes s a v n)))
  /-- A fence. -/
  | fence : Effect s (advance s)
  /-- A jump. -/
  | jump (rd : XReg) (target : Word) (ha : pcAligned s.cfg target = true) :
      Effect s (jumpTo target (writeX rd (nextPc s) s))
  /-- A write of a control and status register. -/
  | csrWrite (rd : XReg) (r : Csr) (v : Word) (n : BitVec 12) (hr : csrOfNum n = some r)
      (hp : csrPrivileged n s.priv = true) (hf : r.isFp = true → s.mstatus.fs ≠ 0) (hv : fit s.cfg v = v) :
      Effect s (finishInt rd (csrRead s r) (csrWrite r v s))
  /-- A read of a control and status register that writes none. -/
  | csrRead (rd : XReg) (r : Csr) (n : BitVec 12) (hr : csrOfNum n = some r) (hp : csrPrivileged n s.priv = true)
      (hf : r.isFp = true → s.mstatus.fs ≠ 0) : Effect s (finishInt rd (csrRead s r) (csrUnwritten r s))
  /-- A return from a trap. -/
  | ret (hp : s.priv = .machine) : Effect s (trapReturn s)

theorem effect_of_illegal {i : Instr} {s t : State} (h : illegal i s = .next t) : Effect s t := by
  rw [(illegal_next h).2]; exact .trap _ _

theorem effect_of_fpFrame {i : Instr} {s t : State} {k : Out} (h : fpFrame i s k = .next t)
    (hk : s.mstatus.fs ≠ 0 → k = .next t → Effect s t) : Effect s t := by
  obtain rfl | ⟨-, hf, h1⟩ := fpFrame_next h
  · exact .trap _ _
  · exact hk hf h1

theorem effect_of_fpRounded {i : Instr} {rm : BitVec 3} {s t : State} {k : RoundingMode → Out}
    (h : fpRounded i rm s k = .next t) (hk : ∀ mode, s.mstatus.fs ≠ 0 → k mode = .next t → Effect s t) :
    Effect s t := by
  obtain rfl | ⟨-, hf, mode, -, h1⟩ := fpRounded_next h
  · exact .trap _ _
  · exact hk mode hf h1

theorem effect_of_present {i : Instr} {s t : State} {k : Out} (h : present i s k = .next t)
    (hk : k = .next t → Effect s t) : Effect s t := by
  obtain rfl | ⟨-, h1⟩ := present_next h
  · exact .trap _ _
  · exact hk h1

theorem effect_of_loadThen {s t : State} {strict : Bool} {a : Word} {n : Nat} {k : Word → State}
    (h : loadThen s strict a n k = .next t)
    (hk : ∀ v, misalignedTraps s.cfg strict a n = false → Effect s (k v)) : Effect s t := by
  obtain ⟨e, -, rfl⟩ | ⟨ha, v, -, rfl⟩ := loadThen_next h
  · exact .trap _ _
  · exact hk v ha

theorem effect_of_store {s t : State} {a v : Word} {n : Nat} (hn : n ≤ 8) (hf : s.mstatus.fs ≠ 0)
    (h : storeThen s a v n (fun u => advance (settleFs u)) = .next t) : Effect s t := by
  obtain ⟨e, -, rfl⟩ | ⟨hc, rfl⟩ | ⟨hc, hw, rfl⟩ := storeThen_next h
  · exact .trap _ _
  · exact .splitTrap a v n hn hc
  · exact .store a v n hn hf hc hw

theorem effect_of_reserve {s t : State} {i : Instr} {rd rs1 : XReg} {n : Nat} {f : Word → Word} (hn : n = 4 ∨ n = 8)
    (h : present i s (loadThen s true (readX s rs1) n fun v => finishInt rd (f v) (reserve (readX s rs1) n s)) =
      .next t) : Effect s t := by
  refine effect_of_present h fun h1 => effect_of_loadThen h1 fun v ha => ?_
  have ha' : (readX s rs1).toNat % n = 0 := by
    simpa [misalignedTraps, isAligned] using ha
  exact .reserved _ _ _ _ hn ha' (fit_readX s rs1)

theorem effect_of_jump {s t : State} {rd : XReg} {target : Word} (h : jumpAndLink rd target s = .next t) :
    Effect s t := by
  obtain ⟨ha, h1⟩ | ⟨-, h1⟩ := jumpAndLink_cases rd target s <;> rw [h1] at h
  · cases h; exact .jump _ _ ha
  · rw [(raise_next h).2]; exact .trap _ _

theorem effect_of_next {s t u : State} (h : (.next u : Out) = .next t) (hu : Effect s u) : Effect s t := by
  cases h; exact hu

theorem effect_of_deliverS {rd : FReg} {r : BitVec 32 × FFlags} {s t : State} (hf : s.mstatus.fs ≠ 0)
    (h : deliverS rd r s = .next t) : Effect s t := effect_of_next h (.toF _ _ _ hf)

theorem effect_of_deliverD {rd : FReg} {r : BitVec 64 × FFlags} {s t : State} (hf : s.mstatus.fs ≠ 0)
    (h : deliverD rd r s = .next t) : Effect s t := effect_of_next h (.toF _ _ _ hf)

theorem effect_of_deliverX {rd : XReg} {w : Nat} {r : BitVec w × FFlags} {s t : State} (hf : s.mstatus.fs ≠ 0)
    (h : deliverX rd r s = .next t) : Effect s t := effect_of_next h (.toX _ _ _ hf)

theorem mstatusRead_fit (c : Config) (m : Mstatus) : fit c (mstatusRead c m) = mstatusRead c m := by
  unfold fit
  cases h : c.xlen with
  | rv64 => rfl
  | rv32 =>
    apply BitVec.eq_of_getLsbD_eq
    intro i hi
    simp only [mstatusRead, h, BitVec.getLsbD_setWidth, BitVec.getLsbD_or, BitVec.getLsbD_shiftLeft, hi, decide_true,
      Bool.true_and]
    by_cases h32 : i < 32
    · simp [h32]
    · have h1 : ∀ (w : Nat) (v : BitVec w) k, w + k ≤ 32 → v.getLsbD (i - k) = false :=
        fun w v k hk => BitVec.getLsbD_of_ge _ _ (by omega)
      simp [h32, h1]

/-- R303: what a CSR instruction reads has the width of a register. -/
theorem csrRead_fit (s : State) (r : Csr) : fit s.cfg (csrRead s r) = csrRead s r := by
  have narrow : ∀ {w : Nat} (v : BitVec w), w ≤ 32 → fit s.cfg (v.setWidth 64) = v.setWidth 64 := by
    intro w v hw
    unfold fit
    split
    · apply BitVec.eq_of_getLsbD_eq
      intro i hi
      simp only [BitVec.getLsbD_setWidth, hi, decide_true, Bool.true_and]
      by_cases h32 : i < 32
      · simp [h32]
      · simp [h32, BitVec.getLsbD_of_ge v i (by omega)]
    · rfl
  cases r
  · exact narrow _ (by norm_num)
  · exact narrow _ (by norm_num)
  · exact narrow _ (by norm_num)
  · exact mstatusRead_fit _ _
  · exact fit_fit _ _
  · exact fit_fit _ _
  · exact fit_fit _ _
  · exact fit_fit _ _

theorem fit_or {c : Config} {v w : Word} (hv : fit c v = v) (hw : fit c w = w) : fit c (v ||| w) = v ||| w := by
  unfold fit at *
  split
  · next h =>
    simp only [h] at hv hw
    rw [BitVec.setWidth_or, BitVec.setWidth_or, hv, hw]
  · rfl

/-- Everything an instruction that answers a next state can do. -/
theorem exec_effect {i : Instr} {s t : State} (h : exec i s = .next t) : Effect s t := by
  cases i
  all_goals simp only [exec] at h
  case faddS => unfold execFaddS at h; exact effect_of_fpRounded h fun _ hf h1 => effect_of_deliverS hf h1
  case fsubS => unfold execFsubS at h; exact effect_of_fpRounded h fun _ hf h1 => effect_of_deliverS hf h1
  case fmulS => unfold execFmulS at h; exact effect_of_fpRounded h fun _ hf h1 => effect_of_deliverS hf h1
  case fdivS => unfold execFdivS at h; exact effect_of_fpRounded h fun _ hf h1 => effect_of_deliverS hf h1
  case fsqrtS => unfold execFsqrtS at h; exact effect_of_fpRounded h fun _ hf h1 => effect_of_deliverS hf h1
  case fmaddS => unfold execFmaddS at h; exact effect_of_fpRounded h fun _ hf h1 => effect_of_deliverS hf h1
  case fmsubS => unfold execFmsubS at h; exact effect_of_fpRounded h fun _ hf h1 => effect_of_deliverS hf h1
  case fnmsubS => unfold execFnmsubS at h; exact effect_of_fpRounded h fun _ hf h1 => effect_of_deliverS hf h1
  case fnmaddS => unfold execFnmaddS at h; exact effect_of_fpRounded h fun _ hf h1 => effect_of_deliverS hf h1
  case fcvtSW => unfold execFcvtSW at h; exact effect_of_fpRounded h fun _ hf h1 => effect_of_deliverS hf h1
  case fcvtSWu => unfold execFcvtSWu at h; exact effect_of_fpRounded h fun _ hf h1 => effect_of_deliverS hf h1
  case fcvtSL => unfold execFcvtSL at h; exact effect_of_fpRounded h fun _ hf h1 => effect_of_deliverS hf h1
  case fcvtSLu => unfold execFcvtSLu at h; exact effect_of_fpRounded h fun _ hf h1 => effect_of_deliverS hf h1
  case fcvtSD => unfold execFcvtSD at h; exact effect_of_fpRounded h fun _ hf h1 => effect_of_deliverS hf h1
  case faddD => unfold execFaddD at h; exact effect_of_fpRounded h fun _ hf h1 => effect_of_deliverD hf h1
  case fsubD => unfold execFsubD at h; exact effect_of_fpRounded h fun _ hf h1 => effect_of_deliverD hf h1
  case fmulD => unfold execFmulD at h; exact effect_of_fpRounded h fun _ hf h1 => effect_of_deliverD hf h1
  case fdivD => unfold execFdivD at h; exact effect_of_fpRounded h fun _ hf h1 => effect_of_deliverD hf h1
  case fsqrtD => unfold execFsqrtD at h; exact effect_of_fpRounded h fun _ hf h1 => effect_of_deliverD hf h1
  case fmaddD => unfold execFmaddD at h; exact effect_of_fpRounded h fun _ hf h1 => effect_of_deliverD hf h1
  case fmsubD => unfold execFmsubD at h; exact effect_of_fpRounded h fun _ hf h1 => effect_of_deliverD hf h1
  case fnmsubD => unfold execFnmsubD at h; exact effect_of_fpRounded h fun _ hf h1 => effect_of_deliverD hf h1
  case fnmaddD => unfold execFnmaddD at h; exact effect_of_fpRounded h fun _ hf h1 => effect_of_deliverD hf h1
  case fcvtDW => unfold execFcvtDW at h; exact effect_of_fpRounded h fun _ hf h1 => effect_of_deliverD hf h1
  case fcvtDWu => unfold execFcvtDWu at h; exact effect_of_fpRounded h fun _ hf h1 => effect_of_deliverD hf h1
  case fcvtDL => unfold execFcvtDL at h; exact effect_of_fpRounded h fun _ hf h1 => effect_of_deliverD hf h1
  case fcvtDLu => unfold execFcvtDLu at h; exact effect_of_fpRounded h fun _ hf h1 => effect_of_deliverD hf h1
  case fcvtDS => unfold execFcvtDS at h; exact effect_of_fpRounded h fun _ hf h1 => effect_of_deliverD hf h1
  case fminS => unfold execFminS at h; exact effect_of_fpFrame h fun hf h1 => effect_of_deliverS hf h1
  case fmaxS => unfold execFmaxS at h; exact effect_of_fpFrame h fun hf h1 => effect_of_deliverS hf h1
  case fmvWX => unfold execFmvWX at h; exact effect_of_fpFrame h fun hf h1 => effect_of_deliverS hf h1
  case fsgnjS => unfold execFsgnjS at h; exact effect_of_fpFrame h fun hf h1 => effect_of_deliverS hf h1
  case fsgnjnS => unfold execFsgnjnS at h; exact effect_of_fpFrame h fun hf h1 => effect_of_deliverS hf h1
  case fsgnjxS => unfold execFsgnjxS at h; exact effect_of_fpFrame h fun hf h1 => effect_of_deliverS hf h1
  case fminD => unfold execFminD at h; exact effect_of_fpFrame h fun hf h1 => effect_of_deliverD hf h1
  case fmaxD => unfold execFmaxD at h; exact effect_of_fpFrame h fun hf h1 => effect_of_deliverD hf h1
  case fmvDX => unfold execFmvDX at h; exact effect_of_fpFrame h fun hf h1 => effect_of_deliverD hf h1
  case fsgnjD => unfold execFsgnjD at h; exact effect_of_fpFrame h fun hf h1 => effect_of_deliverD hf h1
  case fsgnjnD => unfold execFsgnjnD at h; exact effect_of_fpFrame h fun hf h1 => effect_of_deliverD hf h1
  case fsgnjxD => unfold execFsgnjxD at h; exact effect_of_fpFrame h fun hf h1 => effect_of_deliverD hf h1
  case feqS => unfold execFeqS at h; exact effect_of_fpFrame h fun hf h1 => effect_of_next h1 (.toX _ _ _ hf)
  case feqD => unfold execFeqD at h; exact effect_of_fpFrame h fun hf h1 => effect_of_next h1 (.toX _ _ _ hf)
  case fltS => unfold execFltS at h; exact effect_of_fpFrame h fun hf h1 => effect_of_next h1 (.toX _ _ _ hf)
  case fltD => unfold execFltD at h; exact effect_of_fpFrame h fun hf h1 => effect_of_next h1 (.toX _ _ _ hf)
  case fleS => unfold execFleS at h; exact effect_of_fpFrame h fun hf h1 => effect_of_next h1 (.toX _ _ _ hf)
  case fleD => unfold execFleD at h; exact effect_of_fpFrame h fun hf h1 => effect_of_next h1 (.toX _ _ _ hf)
  case fclassS => unfold execFclassS at h; exact effect_of_fpFrame h fun hf h1 => effect_of_next h1 (.toX _ _ _ hf)
  case fclassD => unfold execFclassD at h; exact effect_of_fpFrame h fun hf h1 => effect_of_next h1 (.toX _ _ _ hf)
  case fcvtWS => unfold execFcvtWS at h; exact effect_of_fpRounded h fun _ hf h1 => effect_of_deliverX hf h1
  case fcvtWuS => unfold execFcvtWuS at h; exact effect_of_fpRounded h fun _ hf h1 => effect_of_deliverX hf h1
  case fcvtLS => unfold execFcvtLS at h; exact effect_of_fpRounded h fun _ hf h1 => effect_of_deliverX hf h1
  case fcvtLuS => unfold execFcvtLuS at h; exact effect_of_fpRounded h fun _ hf h1 => effect_of_deliverX hf h1
  case fcvtWD => unfold execFcvtWD at h; exact effect_of_fpRounded h fun _ hf h1 => effect_of_deliverX hf h1
  case fcvtWuD => unfold execFcvtWuD at h; exact effect_of_fpRounded h fun _ hf h1 => effect_of_deliverX hf h1
  case fcvtLD => unfold execFcvtLD at h; exact effect_of_fpRounded h fun _ hf h1 => effect_of_deliverX hf h1
  case fcvtLuD => unfold execFcvtLuD at h; exact effect_of_fpRounded h fun _ hf h1 => effect_of_deliverX hf h1
  case fmvXW => unfold execFmvXW at h; exact effect_of_fpFrame h fun hf h1 => effect_of_deliverX hf h1
  case fmvXD => unfold execFmvXD at h; exact effect_of_fpFrame h fun hf h1 => effect_of_deliverX hf h1
  case fence => unfold execFence at h; exact effect_of_next h .fence
  case fenceI => unfold execFenceI at h; exact effect_of_next h .fence
  case flw => unfold execFlw at h; exact effect_of_fpFrame h fun hf h1 => effect_of_loadThen h1 fun _ _ => .toF _ _ _ hf
  case fld => unfold execFld at h; exact effect_of_fpFrame h fun hf h1 => effect_of_loadThen h1 fun _ _ => .toF _ _ _ hf
  case fsw => unfold execFsw at h; exact effect_of_fpFrame h fun hf h1 => effect_of_store (by norm_num) hf h1
  case fsd => unfold execFsd at h; exact effect_of_fpFrame h fun hf h1 => effect_of_store (by norm_num) hf h1
  case jal => unfold execJal at h; exact effect_of_jump h
  case jalr => unfold execJalr at h; exact effect_of_jump h
  case lb => unfold execLb at h; exact effect_of_loadThen h fun _ _ => .toInt _ _
  case lbu => unfold execLbu at h; exact effect_of_loadThen h fun _ _ => .toInt _ _
  case lh => unfold execLh at h; exact effect_of_loadThen h fun _ _ => .toInt _ _
  case lhu => unfold execLhu at h; exact effect_of_loadThen h fun _ _ => .toInt _ _
  case lw => unfold execLw at h; exact effect_of_loadThen h fun _ _ => .toInt _ _
  case lwu => unfold execLwu at h; exact effect_of_present h fun h1 => effect_of_loadThen h1 fun _ _ => .toInt _ _
  case ld => unfold execLd at h; exact effect_of_present h fun h1 => effect_of_loadThen h1 fun _ _ => .toInt _ _
  case lui => unfold execLui at h; exact effect_of_next h (.toInt _ _)
  case lrW => unfold execLrW at h; exact effect_of_reserve (.inl rfl) h
  case lrD => unfold execLrD at h; exact effect_of_reserve (.inr rfl) h
  case csrrw rd rs1 n =>
    unfold execCsrrw at h
    obtain rfl | ⟨r, hr, hp, hf, h1⟩ := csrFrame_next h
    · exact .trap _ _
    · cases h1; exact .csrWrite rd r _ n hr hp hf (fit_readX s rs1)
  case csrrs rd rs1 n =>
    unfold execCsrrs at h
    obtain rfl | ⟨r, hr, hp, hf, h1⟩ := csrFrame_next h
    · exact .trap _ _
    · split at h1 <;> cases h1
      · exact .csrRead rd r n hr hp hf
      · exact .csrWrite rd r _ n hr hp hf (fit_or (csrRead_fit s r) (fit_readX s rs1))
  case mret =>
    unfold execMret at h
    split at h
    · next hp => cases h; exact .ret hp
    · exact effect_of_illegal h

/-- All that `runWord` can answer. -/
theorem runWord_effect {w : Insn} {s t : State} (h : runWord w s = .next t) : Effect s t := by
  unfold runWord at h
  split at h
  · exact exec_effect h
  · rw [(raise_next h).2]; exact .trap _ _
  · cases h
  · cases h
  · cases h

/-- Everything a step that answers a next state can do. -/
theorem step_effect {s t : State} (h : step s = .next t) : Effect s t := by
  unfold step stepHart at h
  split at h
  · cases h
  · split at h
    · exact runWord_effect h
    · rw [(raise_next h).2]; exact .trap _ _
    · cases h
    · cases h

/-- What a step does with a word it can fetch (R20). -/
theorem step_of_fetch {s : State} {w : Insn} (hh : atHalt s = false) (hf : fetch s = .word w) :
    step s = runWord w s := by
  unfold step stepHart; rw [hh, hf]; simp

end Sys2Proof.Machine
end

