-- ==== Sys2Proof/Tests/Slice0.lean ====
section
/-! SUPPORT. Tests. Expected results come from the spec: the worked words of its examples, the vectors T1 to T253 of
spec/95_test_vectors.md (named in each test), and the fields of spec/30_encoding.md. The last part gives, for every
statement with hypotheses, states and operands that meet them. -/

-- One theorem at a time: in parallel, the many small evaluations of this file reserve more memory than they use.
set_option Elab.async false

namespace Sys2Proof.Tests

open Sys2Proof Sys2Proof.Machine

/-! ### Well-formedness: an ill-formed term for each check -/

theorem test_wf_accepts : (Instr.faddS 3 1 2 0b111).wellFormed Config.initial = true ∧
    (Instr.fcvtLD 3 1 0b100).wellFormed Config.initial = true ∧ Instr.mret.wellFormed Config.initial = true := by decide
theorem test_wf_reserved_rm : (Instr.faddS 3 1 2 0b101).wellFormed Config.initial = false ∧
    (Instr.fcvtWD 3 1 0b110).wellFormed Config.initial = false := by decide
theorem test_wf_no_d : (Instr.fld 3 1 0).wellFormed { Config.initial with hasD := false } = false := by decide
theorem test_wf_no_a : (Instr.lrW 3 1 false false).wellFormed { Config.initial with hasA := false } = false := by decide
theorem test_wf_rv64_only : (Instr.lwu 3 1 0).wellFormed { Config.initial with xlen := .rv32 } = false := by decide
theorem test_wf_config_accepts : Config.initial.wellFormed = true ∧
    ({ Config.initial with code := [⟨0x1000, 0x100⟩], halt := some 0x1080 } : Config).wellFormed = true := by decide
theorem test_wf_reset_pc_misaligned : ({ Config.initial with resetPc := 0x1002 } : Config).wellFormed = false := by decide
theorem test_wf_reset_pc_too_wide :
    ({ Config.initial with xlen := .rv32, memMap := [], resetPc := 0x100000000 } : Config).wellFormed = false := by decide
theorem test_wf_region_beyond_space :
    ({ Config.initial with memMap := [⟨2 ^ 64 - 4, 8, true, true, true⟩] } : Config).wellFormed = false := by decide
theorem test_wf_code_outside_map : ({ Config.initial with
    memMap := [⟨0, 0x2000, true, true, true⟩], code := [⟨0x1ffc, 8⟩] } : Config).wellFormed = false := by decide
theorem test_wf_halt_too_wide : ({ Config.initial with
    xlen := .rv32, memMap := [], halt := some 0x100000000 } : Config).wellFormed = false := by decide

/-! ### Decoding: words written out from the formats R92 to R98 and the codes R104 to R108 -/

/-- R92, R107, field by field: `funct7 rs2 rs1 rm rd opcode` of `fadd.s f3, f1, f2`. -/
theorem test_bits_arithmetic : decodeWord
    (0b0000000#7 ++ 0b00010#5 ++ 0b00001#5 ++ 0b111#3 ++ 0b00011#5 ++ 0b1010011#7) = .instr (.faddS 3 1 2 0b111) := by decide
/-- R93: `rs3 fmt rs2 rs1 rm rd opcode` of `fmadd.d f4, f1, f2, f3`. -/
theorem test_bits_fused : decodeWord (0b00011#5 ++ 0b01#2 ++ 0b00010#5 ++ 0b00001#5 ++ 0b111#3 ++ 0b00100#5 ++ 0b1000011#7) =
    .instr (.fmaddD 4 1 2 3 0b111) := by decide
/-- R107: `feq.s x5, f1, f2`. -/
theorem test_bits_compare : decodeWord
    (0b1010000#7 ++ 0b00010#5 ++ 0b00001#5 ++ 0b010#3 ++ 0b00101#5 ++ 0b1010011#7) = .instr (.feqS 5 1 2) := by decide
/-- R107, R108: `fcvt.lu.d x5, f1, rtz`, whose `rs2` field is the sub-code `00011`. -/
theorem test_bits_convert : decodeWord
    (0b1100001#7 ++ 0b00011#5 ++ 0b00001#5 ++ 0b001#3 ++ 0b00101#5 ++ 0b1010011#7) = .instr (.fcvtLuD 5 1 0b001) := by decide
/-- R94, R260: `fm pred succ rs1 funct3 rd opcode` of `fence r, rw`. -/
theorem test_bits_fence : decodeWord
    (0b0000#4 ++ 0b0010#4 ++ 0b0011#4 ++ 0b00000#5 ++ 0b000#3 ++ 0b00000#5 ++ 0b0001111#7) =
    .instr (.fence 0 0b0010 0b0011 0 0) := by decide
/-- R94, R271: `flw f1, -4(x10)`. -/
theorem test_bits_fp_load : decodeWord (0b111111111100#12 ++ 0b01010#5 ++ 0b010#3 ++ 0b00001#5 ++ 0b0000111#7) =
    .instr (.flw 1 10 0xffc) := by decide
/-- R95, R273: `fsw f1, -4(x10)`: the immediate is in two parts. -/
theorem test_bits_fp_store : decodeWord
    (0b1111111#7 ++ 0b00001#5 ++ 0b01010#5 ++ 0b010#3 ++ 0b11100#5 ++ 0b0100111#7) = .instr (.fsw 1 10 0xffc) := by decide
/-- R107: `fsgnjn.s f3, f1, f2`. -/
theorem test_bits_sign : decodeWord
    (0b0010000#7 ++ 0b00010#5 ++ 0b00001#5 ++ 0b001#3 ++ 0b00011#5 ++ 0b1010011#7) = .instr (.fsgnjnS 3 1 2) := by decide
/-- R94, R103: `csrrw x6, fcsr, x5`. -/
theorem test_bits_csr : decodeWord (0b000000000011#12 ++ 0b00101#5 ++ 0b001#3 ++ 0b00110#5 ++ 0b1110011#7) =
    .instr (.csrrw 6 5 0x003) := by decide
/-- R98: `imm[20] imm[10:1] imm[11] imm[19:12] rd opcode` of `jal x1, -2048`: bit 11 is set, bits 10 to 1 are not. -/
theorem test_bits_jal : decodeWord (0b1#1 ++ 0b0000000000#10 ++ 0b1#1 ++ 0b11111111#8 ++ 0b00001#5 ++ 0b1101111#7) =
    .instr (.jal 1 0xffc00) := by decide
/-- R97: `lui x5, 0x12345`. -/
theorem test_bits_lui : decodeWord (0b00010010001101000101#20 ++ 0b00101#5 ++ 0b0110111#7) =
    .instr (.lui 5 0x12345) := by decide
/-- R96: `funct5 aq rl rs2 rs1 funct3 rd opcode` of `lr.w.aq x5, (x10)`. -/
theorem test_bits_lr : decodeWord
    (0b00010#5 ++ 0b1#1 ++ 0b0#1 ++ 0b00000#5 ++ 0b01010#5 ++ 0b010#3 ++ 0b00101#5 ++ 0b0101111#7) =
    .instr (.lrW 5 10 true false) := by decide
/-- R90, R110, R116: words that are no instruction. -/
theorem test_decode_rejects : decodeWord 0 = .illegal ∧ decodeWord 0xffffffff = .illegal ∧
    decodeWord 0x04208053 = .illegal ∧ decodeWord 0x00001007 = .illegal ∧ decodeWord 0x5810f1d3 = .illegal ∧
    decodeWord 0x00000013 = .noEntry ∧ decodeWord 0x00007003 = .noEntry ∧ decodeWord 0x30200173 = .noEntry ∧
    decodeWord 0x00000001 = .notThirtyTwoBit ∧ decodeWord 0x0000001f = .notThirtyTwoBit := by decide +kernel

/-- The words of spec/41_fp_arith.md: each instruction with its fixed codes and rd 3, rs1 21, rs2 10, rs3 29, rm 4. -/
theorem test_decode_arithmetic :
    decodeWord 0x00aac1d3 = .instr (.faddS 3 21 10 4) ∧
    decodeWord 0x02aac1d3 = .instr (.faddD 3 21 10 4) ∧
    decodeWord 0x08aac1d3 = .instr (.fsubS 3 21 10 4) ∧
    decodeWord 0x0aaac1d3 = .instr (.fsubD 3 21 10 4) ∧
    decodeWord 0x10aac1d3 = .instr (.fmulS 3 21 10 4) ∧
    decodeWord 0x12aac1d3 = .instr (.fmulD 3 21 10 4) ∧
    decodeWord 0x18aac1d3 = .instr (.fdivS 3 21 10 4) ∧
    decodeWord 0x1aaac1d3 = .instr (.fdivD 3 21 10 4) ∧
    decodeWord 0x580ac1d3 = .instr (.fsqrtS 3 21 4) ∧
    decodeWord 0x5a0ac1d3 = .instr (.fsqrtD 3 21 4) ∧
    decodeWord 0x28aa81d3 = .instr (.fminS 3 21 10) ∧
    decodeWord 0x2aaa81d3 = .instr (.fminD 3 21 10) ∧
    decodeWord 0x28aa91d3 = .instr (.fmaxS 3 21 10) ∧
    decodeWord 0x2aaa91d3 = .instr (.fmaxD 3 21 10) ∧
    decodeWord 0xe8aac1c3 = .instr (.fmaddS 3 21 10 29 4) ∧
    decodeWord 0xeaaac1c3 = .instr (.fmaddD 3 21 10 29 4) ∧
    decodeWord 0xe8aac1c7 = .instr (.fmsubS 3 21 10 29 4) ∧
    decodeWord 0xeaaac1c7 = .instr (.fmsubD 3 21 10 29 4) ∧
    decodeWord 0xe8aac1cb = .instr (.fnmsubS 3 21 10 29 4) ∧
    decodeWord 0xeaaac1cb = .instr (.fnmsubD 3 21 10 29 4) ∧
    decodeWord 0xe8aac1cf = .instr (.fnmaddS 3 21 10 29 4) ∧
    decodeWord 0xeaaac1cf = .instr (.fnmaddD 3 21 10 29 4) := by decide +kernel

/-- The words of spec/42_fp_classify_compare.md: each instruction with its fixed codes and rd 3, rs1 21, rs2 10, rs3 29, rm 4. -/
theorem test_decode_compare_classify :
    decodeWord 0xa0aaa1d3 = .instr (.feqS 3 21 10) ∧
    decodeWord 0xa2aaa1d3 = .instr (.feqD 3 21 10) ∧
    decodeWord 0xa0aa91d3 = .instr (.fltS 3 21 10) ∧
    decodeWord 0xa2aa91d3 = .instr (.fltD 3 21 10) ∧
    decodeWord 0xa0aa81d3 = .instr (.fleS 3 21 10) ∧
    decodeWord 0xa2aa81d3 = .instr (.fleD 3 21 10) ∧
    decodeWord 0xe00a91d3 = .instr (.fclassS 3 21) ∧
    decodeWord 0xe20a91d3 = .instr (.fclassD 3 21) := by decide +kernel

/-- The words of spec/43_fp_convert_move.md: each instruction with its fixed codes and rd 3, rs1 21, rs2 10, rs3 29, rm 4. -/
theorem test_decode_convert_move :
    decodeWord 0xc00ac1d3 = .instr (.fcvtWS 3 21 4) ∧
    decodeWord 0xc01ac1d3 = .instr (.fcvtWuS 3 21 4) ∧
    decodeWord 0xc02ac1d3 = .instr (.fcvtLS 3 21 4) ∧
    decodeWord 0xc03ac1d3 = .instr (.fcvtLuS 3 21 4) ∧
    decodeWord 0xc20ac1d3 = .instr (.fcvtWD 3 21 4) ∧
    decodeWord 0xc21ac1d3 = .instr (.fcvtWuD 3 21 4) ∧
    decodeWord 0xc22ac1d3 = .instr (.fcvtLD 3 21 4) ∧
    decodeWord 0xc23ac1d3 = .instr (.fcvtLuD 3 21 4) ∧
    decodeWord 0xd00ac1d3 = .instr (.fcvtSW 3 21 4) ∧
    decodeWord 0xd01ac1d3 = .instr (.fcvtSWu 3 21 4) ∧
    decodeWord 0xd02ac1d3 = .instr (.fcvtSL 3 21 4) ∧
    decodeWord 0xd03ac1d3 = .instr (.fcvtSLu 3 21 4) ∧
    decodeWord 0xd20ac1d3 = .instr (.fcvtDW 3 21 4) ∧
    decodeWord 0xd21ac1d3 = .instr (.fcvtDWu 3 21 4) ∧
    decodeWord 0xd22ac1d3 = .instr (.fcvtDL 3 21 4) ∧
    decodeWord 0xd23ac1d3 = .instr (.fcvtDLu 3 21 4) ∧
    decodeWord 0x401ac1d3 = .instr (.fcvtSD 3 21 4) ∧
    decodeWord 0x420ac1d3 = .instr (.fcvtDS 3 21 4) ∧
    decodeWord 0xe00a81d3 = .instr (.fmvXW 3 21) ∧
    decodeWord 0xf00a81d3 = .instr (.fmvWX 3 21) ∧
    decodeWord 0xe20a81d3 = .instr (.fmvXD 3 21) ∧
    decodeWord 0xf20a81d3 = .instr (.fmvDX 3 21) := by decide +kernel

/-- The words of spec/44_fence.md: each instruction with its fixed codes and rd 3, rs1 21, rs2 10, rs3 29, rm 4. -/
theorem test_decode_fence :
    decodeWord 0x825a818f = .instr (.fence 8 2 5 21 3) ∧
    decodeWord 0xa53a918f = .instr (.fenceI 0xa53 21 3) := by decide +kernel

/-- The words of spec/45_fp_load_store.md: each instruction with its fixed codes and rd 3, rs1 21, rs2 10, rs3 29, rm 4. -/
theorem test_decode_fp_load_store :
    decodeWord 0xa53aa187 = .instr (.flw 3 21 0xa53) ∧
    decodeWord 0xa53ab187 = .instr (.fld 3 21 0xa53) ∧
    decodeWord 0xa4aaa9a7 = .instr (.fsw 10 21 0xa53) ∧
    decodeWord 0xa4aab9a7 = .instr (.fsd 10 21 0xa53) := by decide +kernel

/-- The words of spec/46_fp_sign_inject.md: each instruction with its fixed codes and rd 3, rs1 21, rs2 10, rs3 29, rm 4. -/
theorem test_decode_sign_inject :
    decodeWord 0x20aa81d3 = .instr (.fsgnjS 3 21 10) ∧
    decodeWord 0x22aa81d3 = .instr (.fsgnjD 3 21 10) ∧
    decodeWord 0x20aa91d3 = .instr (.fsgnjnS 3 21 10) ∧
    decodeWord 0x22aa91d3 = .instr (.fsgnjnD 3 21 10) ∧
    decodeWord 0x20aaa1d3 = .instr (.fsgnjxS 3 21 10) ∧
    decodeWord 0x22aaa1d3 = .instr (.fsgnjxD 3 21 10) := by decide +kernel

/-- The words of spec/47_fp_csr_access.md: each instruction with its fixed codes and rd 3, rs1 21, rs2 10, rs3 29, rm 4. -/
theorem test_decode_csr :
    decodeWord 0xa53a91f3 = .instr (.csrrw 3 21 0xa53) ∧
    decodeWord 0xa53aa1f3 = .instr (.csrrs 3 21 0xa53) := by decide +kernel

/-- The words of spec/48_jumps.md: each instruction with its fixed codes and rd 3, rs1 21, rs2 10, rs3 29, rm 4. -/
theorem test_decode_jump :
    decodeWord 0xdaaab1ef = .instr (.jal 3 0xd5ad5) ∧
    decodeWord 0xa53a81e7 = .instr (.jalr 3 21 0xa53) := by decide +kernel

/-- The words of spec/49_loads_lui_lr_mret.md: each instruction with its fixed codes and rd 3, rs1 21, rs2 10, rs3 29, rm 4. -/
theorem test_decode_load_lui_lr_mret :
    decodeWord 0xa53a8183 = .instr (.lb 3 21 0xa53) ∧
    decodeWord 0xa53ac183 = .instr (.lbu 3 21 0xa53) ∧
    decodeWord 0xa53a9183 = .instr (.lh 3 21 0xa53) ∧
    decodeWord 0xa53ad183 = .instr (.lhu 3 21 0xa53) ∧
    decodeWord 0xa53aa183 = .instr (.lw 3 21 0xa53) ∧
    decodeWord 0xa53ae183 = .instr (.lwu 3 21 0xa53) ∧
    decodeWord 0xa53ab183 = .instr (.ld 3 21 0xa53) ∧
    decodeWord 0xabcde1b7 = .instr (.lui 3 0xabcde) ∧
    decodeWord 0x140aa1af = .instr (.lrW 3 21 true false) ∧
    decodeWord 0x140ab1af = .instr (.lrD 3 21 true false) ∧
    decodeWord 0x30200073 = .instr .mret := by decide +kernel

/-! ### One step on a small state -/

/-- The launch state of spec/95_test_vectors.md, with the word `w` loaded at `pc`: machine mode, `pc` 0x1000, `FS` 1,
`mtvec` 0x8000. -/
def at1000 (w : Nat) : State :=
  State.withFetchWord { State.reset with mtvec := 0x8000, mstatus := { State.reset.mstatus with fs := 1 } } 32 w

/-- `s` with `fcsr` set. -/
def withFcsr (v : BitVec 8) (s : State) : State := { s with fcsr := v }
/-- `s` with `FS` set. -/
def withFs (v : BitVec 2) (s : State) : State := { s with mstatus := { s.mstatus with fs := v } }
/-- `s` with `MIE` set. -/
def withMie (s : State) : State := { s with mstatus := { s.mstatus with mie := true } }
/-- `s` with `mepc` and `MPIE` set, as a trap handler finds them. -/
def withReturn (a : Word) (s : State) : State := { s with mepc := a, mstatus := { s.mstatus with mpie := true } }
/-- `s` with another configuration. -/
def withCfg (f : Config → Config) (s : State) : State := { s with cfg := f s.cfg }
/-- `s` with XLEN 32. -/
def onRv32 (s : State) : State := withCfg (fun c => { c with xlen := .rv32 }) s
/-- `s` with user mode, and in it. -/
def inUser (s : State) : State := { withCfg (fun c => { c with hasU := true }) s with priv := .user }
/-- `s` with bytes in memory from the address `a` on. -/
def putBytes (a : Nat) (l : List Byte) (s : State) : State :=
  { s with mem := l.zipIdx.foldl (fun m p => memSet m (a + p.2) p.1) s.mem }
/-- `s` with the eight bytes at 0x2000 of section 2.10 of spec/95_test_vectors.md. -/
def sampleBytes (s : State) : State := putBytes 0x2000 [0x81, 0x22, 0x33, 0x44, 0x55, 0x66, 0x77, 0x88] s
/-- Whether an outcome is a next state with `p`. -/
def after (o : Out) (p : State → Bool) : Bool :=
  match o with
  | .next t => p t
  | _ => false
/-- Whether `n` bytes at `a` are the value `v`. -/
def bytesAre (t : State) (a : Word) (n : Nat) (v : Word) : Bool :=
  match readBytes t.cfg t.mem a n with
  | .ok w => w == v
  | .error _ => false
/-- Whether the state is at the handler after a trap from 0x1000. -/
def trapped (t : State) (cause tval : Word) : Bool :=
  t.mcause == cause && t.mtval == tval && t.mepc == 0x1000 && readPc t == 0x8000

/-- T3: `fadd.s f3, f1, f2, rup`. -/
theorem test_T3_fadd_s : after (step (at1000 0x0020b1d3 |> writeF 1 0xffffffff3f800000 |> writeF 2 0xffffffff33800000))
    (fun t => readF t 3 == 0xffffffff3f800001 && t.fcsr == 0x1) = true := by decide +kernel
/-- T13: `fadd.s f3, f1, f2`. -/
theorem test_T13_fadd_s : after (step (at1000 0x0020f1d3 |> writeF 1 0x3f800000 |> writeF 2 0xffffffff3f800000))
    (fun t => readF t 3 == 0xffffffff7fc00000 && t.fcsr == 0x0) = true := by decide +kernel
/-- T58: `fadd.d f3, f1, f2, rtz`. -/
theorem test_T58_fadd_d : after (step (at1000 0x022091d3 |> writeF 1 0x3fb999999999999a |> writeF 2 0x3fc999999999999a))
    (fun t => readF t 3 == 0x3fd3333333333333 && t.fcsr == 0x1) = true := by decide +kernel
/-- T16: `fsub.s f3, f1, f2`. -/
theorem test_T16_fsub_s : after (step (at1000 0x0820f1d3 |> writeF 1 0xffffffff40400000 |> writeF 2 0xffffffff3f800000))
    (fun t => readF t 3 == 0xffffffff40000000 && t.fcsr == 0x0) = true := by decide +kernel
/-- T59: `fsub.d f3, f1, f2`. -/
theorem test_T59_fsub_d : after (step (at1000 0x0a20f1d3 |> writeF 1 0x3ff0000000000000 |> writeF 2 0x3ca0000000000000))
    (fun t => readF t 3 == 0x3fefffffffffffff && t.fcsr == 0x0) = true := by decide +kernel
/-- T22: `fmul.s f3, f1, f2`. -/
theorem test_T22_fmul_s : after (step (at1000 0x1020f1d3 |> writeF 1 0xffffffff00ffffff |> writeF 2 0xffffffff3f000000))
    (fun t => readF t 3 == 0xffffffff00800000 && t.fcsr == 0x3) = true := by decide +kernel
/-- T23: `fmul.s f3, f1, f2`. -/
theorem test_T23_fmul_s : after (step (at1000 0x1020f1d3 |> writeF 1 0xffffffff0ff80000 |> writeF 2 0xffffffff30042108))
    (fun t => readF t 3 == 0xffffffff00800000 && t.fcsr == 0x1) = true := by decide +kernel
/-- T61: `fmul.d f3, f1, f2, rdn`. -/
theorem test_T61_fmul_d : after (step (at1000 0x1220a1d3 |> writeF 1 0x7fefffffffffffff |> writeF 2 0x4000000000000000))
    (fun t => readF t 3 == 0x7fefffffffffffff && t.fcsr == 0x5) = true := by decide +kernel
/-- T27: `fdiv.s f3, f1, f2, rtz`. -/
theorem test_T27_fdiv_s : after (step (at1000 0x182091d3 |> writeF 1 0xffffffff3f800000 |> writeF 2 0xffffffff40400000))
    (fun t => readF t 3 == 0xffffffff3eaaaaaa && t.fcsr == 0x1) = true := by decide +kernel
/-- T28: `fdiv.s f3, f1, f2`. -/
theorem test_T28_fdiv_s : after (step (at1000 0x1820f1d3 |> writeF 1 0xffffffff3f800000 |> writeF 2 0xffffffff00000000))
    (fun t => readF t 3 == 0xffffffff7f800000 && t.fcsr == 0x8) = true := by decide +kernel
/-- T63: `fdiv.d f3, f1, f2`. -/
theorem test_T63_fdiv_d : after (step (at1000 0x1a20f1d3 |> writeF 1 0x3ff0000000000000 |> writeF 2 0x8000000000000000))
    (fun t => readF t 3 == 0xfff0000000000000 && t.fcsr == 0x8) = true := by decide +kernel
/-- T32: `fsqrt.s f3, f1`. -/
theorem test_T32_fsqrt_s : after (step (at1000 0x5800f1d3 |> writeF 1 0xffffffff40000000))
    (fun t => readF t 3 == 0xffffffff3fb504f3 && t.fcsr == 0x1) = true := by decide +kernel
/-- T65: `fsqrt.d f3, f1`. -/
theorem test_T65_fsqrt_d : after (step (at1000 0x5a00f1d3 |> writeF 1 0x7ff0000000000001))
    (fun t => readF t 3 == 0x7ff8000000000000 && t.fcsr == 0x10) = true := by decide +kernel
/-- T37: `fmin.s f3, f1, f2`. -/
theorem test_T37_fmin_s : after (step (at1000 0x282081d3 |> writeF 1 0xffffffff00000000 |> writeF 2 0xffffffff80000000))
    (fun t => readF t 3 == 0xffffffff80000000 && t.fcsr == 0x0) = true := by decide +kernel
/-- T40: `fmax.s f3, f1, f2`. -/
theorem test_T40_fmax_s : after (step (at1000 0x282091d3 |> writeF 1 0xffffffff7fa00000 |> writeF 2 0xffffffff3f800000))
    (fun t => readF t 3 == 0xffffffff3f800000 && t.fcsr == 0x10) = true := by decide +kernel
/-- T66: `fmin.d f3, f1, f2`. -/
theorem test_T66_fmin_d : after (step (at1000 0x2a2081d3 |> writeF 1 0x8000000000000000 |> writeF 2 0x0))
    (fun t => readF t 3 == 0x8000000000000000 && t.fcsr == 0x0) = true := by decide +kernel
/-- T248: `fmax.d f3, f1, f2`. -/
theorem test_T248_fmax_d : after (step (at1000 0x2a2091d3 |> writeF 1 0x7ff0000000000000 |>
      writeF 2 0xfff0000000000000))
    (fun t => readF t 3 == 0x7ff0000000000000 && t.fcsr == 0x0) = true := by decide +kernel
/-- T46: `fmadd.s f4, f1, f2, f3`. -/
theorem test_T46_fmadd_s : after (step (at1000 0x1820f243 |> writeF 1 0xffffffff3f800800 |>
      writeF 2 0xffffffff3f800800 |> writeF 3 0xffffffffbf801000))
    (fun t => readF t 4 == 0xffffffff33800000 && t.fcsr == 0x0) = true := by decide +kernel
/-- T50: `fmadd.s f4, f1, f2, f3, rdn`. -/
theorem test_T50_fmadd_s : after (step (at1000 0x1820a243 |> writeF 1 0xffffffff3f800000 |>
      writeF 2 0xffffffff3f800000 |> writeF 3 0xffffffffbf800000))
    (fun t => readF t 4 == 0xffffffff80000000 && t.fcsr == 0x0) = true := by decide +kernel
/-- T43: `fmsub.s f4, f1, f2, f3`. -/
theorem test_T43_fmsub_s : after (step (at1000 0x1820f247 |> writeF 1 0xffffffff40000000 |>
      writeF 2 0xffffffff40400000 |> writeF 3 0xffffffff3f800000))
    (fun t => readF t 4 == 0xffffffff40a00000 && t.fcsr == 0x0) = true := by decide +kernel
/-- T44: `fnmsub.s f4, f1, f2, f3`. -/
theorem test_T44_fnmsub_s : after (step (at1000 0x1820f24b |> writeF 1 0xffffffff40000000 |>
      writeF 2 0xffffffff40400000 |> writeF 3 0xffffffff3f800000))
    (fun t => readF t 4 == 0xffffffffc0a00000 && t.fcsr == 0x0) = true := by decide +kernel
/-- T51: `fnmadd.s f4, f1, f2, f3`. -/
theorem test_T51_fnmadd_s : after (step (at1000 0x1820f24f |> writeF 1 0xffffffff00000000 |>
      writeF 2 0xffffffff3f800000 |> writeF 3 0xffffffff00000000))
    (fun t => readF t 4 == 0xffffffff80000000 && t.fcsr == 0x0) = true := by decide +kernel
/-- T56: `fmadd.d f4, f1, f2, f3`. -/
theorem test_T56_fmadd_d : after (step (at1000 0x1a20f243 |> writeF 1 0x3ff0000004000000 |>
      writeF 2 0x3ff0000004000000 |> writeF 3 0xbff0000008000000))
    (fun t => readF t 4 == 0x3cb0000000000000 && t.fcsr == 0x0) = true := by decide +kernel
/-- T53: `fmsub.d f4, f1, f2, f3`. -/
theorem test_T53_fmsub_d : after (step (at1000 0x1a20f247 |> writeF 1 0x4000000000000000 |>
      writeF 2 0x4008000000000000 |> writeF 3 0x3ff0000000000000))
    (fun t => readF t 4 == 0x4014000000000000 && t.fcsr == 0x0) = true := by decide +kernel
/-- T54: `fnmsub.d f4, f1, f2, f3`. -/
theorem test_T54_fnmsub_d : after (step (at1000 0x1a20f24b |> writeF 1 0x4000000000000000 |>
      writeF 2 0x4008000000000000 |> writeF 3 0x3ff0000000000000))
    (fun t => readF t 4 == 0xc014000000000000 && t.fcsr == 0x0) = true := by decide +kernel
/-- T55: `fnmadd.d f4, f1, f2, f3`. -/
theorem test_T55_fnmadd_d : after (step (at1000 0x1a20f24f |> writeF 1 0x4000000000000000 |>
      writeF 2 0x4008000000000000 |> writeF 3 0x3ff0000000000000))
    (fun t => readF t 4 == 0xc01c000000000000 && t.fcsr == 0x0) = true := by decide +kernel
/-- T73: `feq.s x5, f1, f2`. -/
theorem test_T73_feq_s : after (step (at1000 0xa020a2d3 |> writeF 1 0xffffffff7fa00000 |>
      writeF 2 0xffffffff3f800000 |> writeX 5 0x55))
    (fun t => readX t 5 == 0x0 && t.fcsr == 0x10) = true := by decide +kernel
/-- T79: `feq.d x5, f1, f2`. -/
theorem test_T79_feq_d : after (step (at1000 0xa220a2d3 |> writeF 1 0x3ff0000000000000 |> writeF 2 0x3ff0000000000000))
    (fun t => readX t 5 == 0x1 && t.fcsr == 0x0) = true := by decide +kernel
/-- T74: `flt.s x5, f1, f2`. -/
theorem test_T74_flt_s : after (step (at1000 0xa02092d3 |> writeF 1 0xffffffff3f800000 |> writeF 2 0xffffffff40000000))
    (fun t => readX t 5 == 0x1 && t.fcsr == 0x0) = true := by decide +kernel
/-- T80: `flt.d x5, f1, f2`. -/
theorem test_T80_flt_d : after (step (at1000 0xa22092d3 |> writeF 1 0xc01c000000000000 |> writeF 2 0x4004000000000000))
    (fun t => readX t 5 == 0x1 && t.fcsr == 0x0) = true := by decide +kernel
/-- T77: `fle.s x5, f1, f2`. -/
theorem test_T77_fle_s : after (step (at1000 0xa02082d3 |> writeF 1 0xffffffff40000000 |>
      writeF 2 0xffffffff3f800000 |> writeX 5 0x55))
    (fun t => readX t 5 == 0x0 && t.fcsr == 0x0) = true := by decide +kernel
/-- T81: `fle.d x5, f1, f2`. -/
theorem test_T81_fle_d : after (step (at1000 0xa22082d3 |> writeF 1 0x7ff8000000000000 |>
      writeF 2 0x3ff0000000000000 |> writeX 5 0x55))
    (fun t => readX t 5 == 0x0 && t.fcsr == 0x10) = true := by decide +kernel
/-- T85: `fclass.s x5, f1`. -/
theorem test_T85_fclass_s : after (step (at1000 0xe00092d3 |> writeF 1 0xffffffff80000001))
    (fun t => readX t 5 == 0x4 && t.fcsr == 0x0) = true := by decide +kernel
/-- T102: `fclass.d x5, f1`. -/
theorem test_T102_fclass_d : after (step (at1000 0xe20092d3 |> writeF 1 0x7ff0000000000001))
    (fun t => readX t 5 == 0x100 && t.fcsr == 0x0) = true := by decide +kernel
/-- T109: `fcvt.w.s x5, f1, rdn`. -/
theorem test_T109_fcvt_w_s : after (step (at1000 0xc000a2d3 |> writeF 1 0xffffffffbfc00000))
    (fun t => readX t 5 == 0xfffffffffffffffe && t.fcsr == 0x1) = true := by decide +kernel
/-- T119: `fcvt.wu.s x5, f1`. -/
theorem test_T119_fcvt_wu_s : after (step (at1000 0xc010f2d3 |> writeF 1 0xffffffff4f000000))
    (fun t => readX t 5 == 0xffffffff80000000 && t.fcsr == 0x0) = true := by decide +kernel
/-- T121: `fcvt.l.s x5, f1`. -/
theorem test_T121_fcvt_l_s : after (step (at1000 0xc020f2d3 |> writeF 1 0xffffffffdf000000))
    (fun t => readX t 5 == 0x8000000000000000 && t.fcsr == 0x0) = true := by decide +kernel
/-- T123: `fcvt.l.s x5, f1`. -/
theorem test_T123_fcvt_l_s : after (step (at1000 0xc020f2d3 |> writeF 1 0xffffffff3f800000 |> onRv32))
    (fun t => trapped t 2 0xc020f2d3) = true := by decide +kernel
/-- T124: `fcvt.lu.s x5, f1`. -/
theorem test_T124_fcvt_lu_s : after (step (at1000 0xc030f2d3 |> writeF 1 0xffffffff5f000000))
    (fun t => readX t 5 == 0x8000000000000000 && t.fcsr == 0x0) = true := by decide +kernel
/-- T126: `fcvt.w.d x5, f1`. -/
theorem test_T126_fcvt_w_d : after (step (at1000 0xc200f2d3 |> writeF 1 0xc1e0000000100000))
    (fun t => readX t 5 == 0xffffffff80000000 && t.fcsr == 0x1) = true := by decide +kernel
/-- T128: `fcvt.wu.d x5, f1`. -/
theorem test_T128_fcvt_wu_d : after (step (at1000 0xc210f2d3 |> writeF 1 0x41efffffffe00000))
    (fun t => readX t 5 == 0xffffffffffffffff && t.fcsr == 0x0) = true := by decide +kernel
/-- T130: `fcvt.l.d x5, f1, rtz`. -/
theorem test_T130_fcvt_l_d : after (step (at1000 0xc22092d3 |> writeF 1 0xc00c000000000000))
    (fun t => readX t 5 == 0xfffffffffffffffd && t.fcsr == 0x1) = true := by decide +kernel
/-- T132: `fcvt.lu.d x5, f1`. -/
theorem test_T132_fcvt_lu_d : after (step (at1000 0xc230f2d3 |> writeF 1 0x43f0000000000000))
    (fun t => readX t 5 == 0xffffffffffffffff && t.fcsr == 0x10) = true := by decide +kernel
/-- T135: `fcvt.s.w f1, x5`. -/
theorem test_T135_fcvt_s_w : after (step (at1000 0xd002f0d3 |> writeX 5 0x1234567800000007))
    (fun t => readF t 1 == 0xffffffff40e00000) = true := by decide +kernel
/-- T139: `fcvt.s.wu f1, x5`. -/
theorem test_T139_fcvt_s_wu : after (step (at1000 0xd012f0d3 |> writeX 5 0xffffffff))
    (fun t => readF t 1 == 0xffffffff4f800000) = true := by decide +kernel
/-- T140: `fcvt.s.l f1, x5`. -/
theorem test_T140_fcvt_s_l : after (step (at1000 0xd022f0d3 |> writeX 5 0x8000000000000000))
    (fun t => readF t 1 == 0xffffffffdf000000) = true := by decide +kernel
/-- T142: `fcvt.s.lu f1, x5, rtz`. -/
theorem test_T142_fcvt_s_lu : after (step (at1000 0xd03290d3 |> writeX 5 0xffffffffffffffff))
    (fun t => readF t 1 == 0xffffffff5f7fffff) = true := by decide +kernel
/-- T144: `fcvt.d.w f1, x5`. -/
theorem test_T144_fcvt_d_w : after (step (at1000 0xd202f0d3 |> writeX 5 0x80000000))
    (fun t => readF t 1 == 0xc1e0000000000000) = true := by decide +kernel
/-- T145: `fcvt.d.wu f1, x5`. -/
theorem test_T145_fcvt_d_wu : after (step (at1000 0xd212f0d3 |> writeX 5 0x80000000))
    (fun t => readF t 1 == 0x41e0000000000000) = true := by decide +kernel
/-- T147: `fcvt.d.l f1, x5, rtz`. -/
theorem test_T147_fcvt_d_l : after (step (at1000 0xd22290d3 |> writeX 5 0x7fffffffffffffff))
    (fun t => readF t 1 == 0x43dfffffffffffff) = true := by decide +kernel
/-- T148: `fcvt.d.lu f1, x5`. -/
theorem test_T148_fcvt_d_lu : after (step (at1000 0xd232f0d3 |> writeX 5 0xffffffffffffffff))
    (fun t => readF t 1 == 0x43f0000000000000) = true := by decide +kernel
/-- T153: `fcvt.s.d f2, f1`. -/
theorem test_T153_fcvt_s_d : after (step (at1000 0x4010f153 |> writeF 1 0x37a16c262777579c))
    (fun t => readF t 2 == 0xffffffff000116c2 && t.fcsr == 0x3) = true := by decide +kernel
/-- T157: `fcvt.d.s f2, f1`. -/
theorem test_T157_fcvt_d_s : after (step (at1000 0x4200f153 |> writeF 1 0xffffffff00000001))
    (fun t => readF t 2 == 0x36a0000000000000 && t.fcsr == 0x0) = true := by decide +kernel
/-- T162: `fmv.x.w x5, f1`. -/
theorem test_T162_fmv_x_w : after (step (at1000 0xe00082d3 |> writeF 1 0x123456789abcdef0))
    (fun t => readX t 5 == 0xffffffff9abcdef0 && t.fcsr == 0x0) = true := by decide +kernel
/-- T163: `fmv.w.x f1, x5`. -/
theorem test_T163_fmv_w_x : after (step (at1000 0xf00280d3 |> writeX 5 0x123456787fa00000))
    (fun t => readF t 1 == 0xffffffff7fa00000) = true := by decide +kernel
/-- T164: `fmv.x.d x5, f1`. -/
theorem test_T164_fmv_x_d : after (step (at1000 0xe20082d3 |> writeF 1 0xc01c000000000000))
    (fun t => readX t 5 == 0xc01c000000000000 && t.fcsr == 0x0) = true := by decide +kernel
/-- T165: `fmv.d.x f1, x5`. -/
theorem test_T165_fmv_d_x : after (step (at1000 0xf20280d3 |> writeX 5 0xdeadbeef))
    (fun t => readF t 1 == 0xdeadbeef) = true := by decide +kernel
/-- T179: `flw f1, -4(x10)`. -/
theorem test_T179_flw : after (step (at1000 0xffc52087 |> writeX 10 0x2008 |> putBytes 0x2004 [0x0, 0x0, 0xa0, 0x7f]))
    (fun t => readF t 1 == 0xffffffff7fa00000) = true := by decide +kernel
/-- T180: `fld f1, 8(x10)`. -/
theorem test_T180_fld : after (step (at1000 0x00853087 |> writeX 10 0x2000 |>
      putBytes 0x2008 [0x18, 0x2d, 0x44, 0x54, 0xfb, 0x21, 0x9, 0x40]))
    (fun t => readF t 1 == 0x400921fb54442d18) = true := by decide +kernel
/-- T183: `fsw f1, 12(x10)`. -/
theorem test_T183_fsw : after (step (at1000 0x00152627 |> writeF 1 0x400921fb54442d18 |> writeX 10 0x2000))
    (fun t => readPc t == 0x1004 && t.fcsr == 0x0 && bytesAre t 0x200c 4 0x54442d18) = true := by decide +kernel
/-- T184: `fsd f1, 16(x10)`. -/
theorem test_T184_fsd : after (step (at1000 0x00153827 |> writeF 1 0x400921fb54442d18 |> writeX 10 0x2000))
    (fun t => readPc t == 0x1004 && t.fcsr == 0x0 && bytesAre t 0x2010 8 0x400921fb54442d18) = true := by decide +kernel
/-- T187: `fld f1, 4(x10)`. -/
theorem test_T187_fld : after (step (at1000 0x00453087 |> writeX 10 0x2000))
    (fun t => trapped t 4 0x2004) = true := by decide +kernel
/-- T168: `fsgnj.s f3, f1, f2`. -/
theorem test_T168_fsgnj_s : after (step (at1000 0x202081d3 |> writeF 1 0xffffffff3f800000 |>
      writeF 2 0xffffffff80000000))
    (fun t => readF t 3 == 0xffffffffbf800000 && t.fcsr == 0x0) = true := by decide +kernel
/-- T171: `fsgnjn.s f3, f1, f1`. -/
theorem test_T171_fsgnjn_s : after (step (at1000 0x201091d3 |> writeF 1 0xffffffff7fa00000))
    (fun t => readF t 3 == 0xffffffffffa00000 && t.fcsr == 0x0) = true := by decide +kernel
/-- T172: `fsgnjx.s f3, f1, f1`. -/
theorem test_T172_fsgnjx_s : after (step (at1000 0x2010a1d3 |> writeF 1 0xffffffffc0000000))
    (fun t => readF t 3 == 0xffffffff40000000 && t.fcsr == 0x0) = true := by decide +kernel
/-- T174: `fsgnj.d f3, f1, f2`. -/
theorem test_T174_fsgnj_d : after (step (at1000 0x222081d3 |> writeF 1 0x3ff0000000000000 |>
      writeF 2 0x8000000000000000))
    (fun t => readF t 3 == 0xbff0000000000000 && t.fcsr == 0x0) = true := by decide +kernel
/-- T175: `fsgnjn.d f3, f1, f2`. -/
theorem test_T175_fsgnjn_d : after (step (at1000 0x222091d3 |> writeF 1 0x3ff0000000000000 |>
      writeF 2 0x8000000000000000))
    (fun t => readF t 3 == 0x3ff0000000000000 && t.fcsr == 0x0) = true := by decide +kernel
/-- T176: `fsgnjx.d f3, f1, f2`. -/
theorem test_T176_fsgnjx_d : after (step (at1000 0x2220a1d3 |> writeF 1 0xbff0000000000000 |>
      writeF 2 0x8000000000000000))
    (fun t => readF t 3 == 0x3ff0000000000000 && t.fcsr == 0x0) = true := by decide +kernel
/-- T193: `fscsr x6, x5`. -/
theorem test_T193_fscsr : after (step (at1000 0x00329373 |> writeX 5 0xfff |> withFcsr 0x71))
    (fun t => readX t 6 == 0x71 && t.fcsr == 0xff) = true := by decide +kernel
/-- T197: `csrrs x5, fflags, x6`. -/
theorem test_T197_csrrs : after (step (at1000 0x001322f3 |> writeX 6 0x10 |> withFcsr 0x21))
    (fun t => readX t 5 == 0x1 && t.fcsr == 0x31) = true := by decide +kernel
/-- T206: `csrrs x5, mstatus, x0`. -/
theorem test_T206_csrrs : after (step (at1000 0x300022f3 |> withFs 3 |> withMie))
    (fun t => readX t 5 == 0x8000000000007808) = true := by decide +kernel
/-- T200: `fadd.s f3, f1, f2`. -/
theorem test_T200_fadd_s : after (step (at1000 0x0020f1d3 |> writeF 1 0xffffffff3f800000 |>
      writeF 2 0xffffffff40000000 |> withFs 0))
    (fun t => trapped t 2 0x20f1d3) = true := by decide +kernel
/-- T209: `jal x0, -16`. -/
theorem test_T209_jal : after (step (at1000 0xff1ff06f))
    (fun t => readPc t == 0xff0) = true := by decide +kernel
/-- T211: `jal x1, 2`. -/
theorem test_T211_jal : after (step (at1000 0x002000ef))
    (fun t => trapped t 0 0x1002) = true := by decide +kernel
/-- T214: `jalr x5, 0(x5)`. -/
theorem test_T214_jalr : after (step (at1000 0x000282e7 |> writeX 5 0x2000))
    (fun t => readX t 5 == 0x1004 && readPc t == 0x2000) = true := by decide +kernel
/-- T218: `lb x5, 0(x10)`. -/
theorem test_T218_lb : after (step (at1000 0x00050283 |> writeX 10 0x2000 |> sampleBytes))
    (fun t => readX t 5 == 0xffffffffffffff81) = true := by decide +kernel
/-- T219: `lbu x5, 0(x10)`. -/
theorem test_T219_lbu : after (step (at1000 0x00054283 |> writeX 10 0x2000 |> sampleBytes))
    (fun t => readX t 5 == 0x81) = true := by decide +kernel
/-- T220: `lh x5, 6(x10)`. -/
theorem test_T220_lh : after (step (at1000 0x00651283 |> writeX 10 0x2000 |> sampleBytes))
    (fun t => readX t 5 == 0xffffffffffff8877) = true := by decide +kernel
/-- T221: `lhu x5, 6(x10)`. -/
theorem test_T221_lhu : after (step (at1000 0x00655283 |> writeX 10 0x2000 |> sampleBytes))
    (fun t => readX t 5 == 0x8877) = true := by decide +kernel
/-- T229: `lw x10, 4(x10)`. -/
theorem test_T229_lw : after (step (at1000 0x00452503 |> writeX 10 0x2000 |> sampleBytes))
    (fun t => readX t 10 == 0xffffffff88776655) = true := by decide +kernel
/-- T224: `lwu x5, 4(x10)`. -/
theorem test_T224_lwu : after (step (at1000 0x00456283 |> writeX 10 0x2000 |> sampleBytes))
    (fun t => readX t 5 == 0x88776655) = true := by decide +kernel
/-- T226: `ld x5, 0(x10)`. -/
theorem test_T226_ld : after (step (at1000 0x00053283 |> writeX 10 0x2000 |> sampleBytes))
    (fun t => readX t 5 == 0x8877665544332281) = true := by decide +kernel
/-- T233: `lui x5, 0x80000`. -/
theorem test_T233_lui : after (step (at1000 0x800002b7 |> sampleBytes))
    (fun t => readX t 5 == 0xffffffff80000000) = true := by decide +kernel
/-- T236: `lr.w x5, (x10)`. -/
theorem test_T236_lr_w : after (step (at1000 0x100522af |> writeX 10 0x2004 |> sampleBytes))
    (fun t => readX t 5 == 0xffffffff88776655 && t.reservation == some ⟨0x2004, 4⟩) = true := by decide +kernel
/-- T237: `lr.d x5, (x10)`. -/
theorem test_T237_lr_d : after (step (at1000 0x100532af |> writeX 10 0x2000 |> sampleBytes))
    (fun t => readX t 5 == 0x8877665544332281 && t.reservation == some ⟨0x2000, 8⟩) = true := by decide +kernel
/-- T238: `lr.w x5, (x10)`. -/
theorem test_T238_lr_w : after (step (at1000 0x100522af |> writeX 10 0x2002 |> sampleBytes))
    (fun t => trapped t 4 0x2002) = true := by decide +kernel
/-- T240: `fence r, rw`. -/
theorem test_T240_fence : after (step (at1000 0x0230000f))
    (fun t => readPc t == 0x1004) = true := by decide +kernel
/-- T242: `fence.i`. -/
theorem test_T242_fence_i : after (step (at1000 0x0000100f))
    (fun t => readPc t == 0x1004) = true := by decide +kernel
/-- T243: `mret`. -/
theorem test_T243_mret : after (step (at1000 0x30200073 |> withReturn 0x3000))
    (fun t => readPc t == 0x3000 && t.mstatus.mie == true && t.mstatus.mpie) = true := by decide +kernel

/-! ### Witnesses: states and operands that meet the hypotheses of the statements -/

theorem exists_of_after {o : Out} {p : State → Bool} (h : after o p = true) : ∃ t, o = .next t ∧ p t = true := by
  cases o with
  | next t => exact ⟨t, rfl, h⟩
  | fault r => simp [after] at h
  | refused r => simp [after] at h

/-- The sample state: the eight bytes of `sampleBytes`, `x10` 0x2000, two boxed singles in `f1` and `f2`, `lw x5, 4(x10)`
at `pc`; regions: 0 to 0x2fff with all rights, then read-only, then execute-only up to 0x3fff, nothing above. -/
def sample : State :=
  withCfg (fun c => { c with memMap := [⟨0, 0x3000, true, true, true⟩, ⟨0x3000, 0x800, true, false, false⟩,
      ⟨0x3800, 0x800, false, false, true⟩] })
    (at1000 0x00452283 |> sampleBytes |> writeX 10 0x2000 |> writeF 1 0xffffffff3f800000 |>
      writeF 2 0xffffffff40000000)

/-- The sample state where misaligned accesses are split. -/
def sampleSplit : State := withCfg (fun c => { c with misaligned := .split }) sample

theorem witness_EncodeOfDecodeAndOneRow : decodeWord 0x0020f1d3 = .instr (.faddS 3 1 2 0b111) := by decide +kernel

theorem witness_AllZeroAndAllOnesAreIllegal :
    atHalt (at1000 0) = false ∧ fetch (at1000 0) = .word 0 ∧
    atHalt (at1000 0xffffffff) = false ∧ fetch (at1000 0xffffffff) = .word (BitVec.allOnes 32) := by decide +kernel

/-- A 16-bit parcel, the start of a longer word, a floating-point word of no row (`fmt` 10), a word of no entry. -/
theorem witness_UnmatchedWords :
    (atHalt (at1000 0x8082) = false ∧ fetch (at1000 0x8082) = .word 0x8082 ∧
      (0x8082 : Insn).extractLsb' 0 2 ≠ 0b11#2) ∧
    (fetch (at1000 0x1f) = .word 0x1f ∧ (0x1f : Insn).extractLsb' 2 3 = 0b111#3 ∧ (0x1f : Insn) ≠ BitVec.allOnes 32) ∧
    (fetch (at1000 0x04208053) = .word 0x04208053 ∧ (0x04208053 : Insn).extractLsb' 0 2 = 0b11#2 ∧
      (0x04208053 : Insn).extractLsb' 2 3 ≠ 0b111#3 ∧ (∀ r ∈ rows, (0x04208053 : Insn) &&& r.mask ≠ r.bits) ∧
      opcodeOf 0x04208053 ∈ fpMajorOpcodes) ∧
    (fetch (at1000 0x13) = .word 0x13 ∧ (0x13 : Insn).extractLsb' 0 2 = 0b11#2 ∧
      (∀ r ∈ rows, (0x13 : Insn) &&& r.mask ≠ r.bits) ∧ opcodeOf 0x13 ∉ fpMajorOpcodes) := by decide +kernel

theorem witness_StepRunsDecodedInstruction :
    atHalt sample = false ∧
    (∀ k < 4, executableAt sample.cfg (byteAddr sample.cfg (readPc sample) k) = true ∧
      codeAt sample.cfg (byteAddr sample.cfg (readPc sample) k) = true) ∧
    memByte sample.mem (byteAddr sample.cfg (readPc sample) 0) = some 0x83 ∧
    memByte sample.mem (byteAddr sample.cfg (readPc sample) 1) = some 0x22 ∧
    memByte sample.mem (byteAddr sample.cfg (readPc sample) 2) = some 0x45 ∧
    memByte sample.mem (byteAddr sample.cfg (readPc sample) 3) = some 0x00 ∧
    decodeBytes [0x83, 0x22, 0x45, 0x00] = .instr (.lw 5 10 4) := by decide +kernel

/-- At HALT; the last byte of the word beyond the executable region; the byte after the loaded word; the word after the
loaded one, in `CODE` with no value. -/
theorem witness_StepThatFetchesNoWord :
    (∃ s : State, s.cfg.halt = some (readPc s)) ∧
    (∃ s : State, s.cfg.halt ≠ some (readPc s) ∧ (∀ k < 3, executableAt s.cfg (byteAddr s.cfg (readPc s) k) = true) ∧
      executableAt s.cfg (byteAddr s.cfg (readPc s) 3) = false) ∧
    (∃ s : State, s.cfg.halt ≠ some (readPc s) ∧
      (∀ k < 4, executableAt s.cfg (byteAddr s.cfg (readPc s) k) = true) ∧
      (∃ k < 4, codeAt s.cfg (byteAddr s.cfg (readPc s) k) = false)) ∧
    (∃ s : State, s.cfg.halt ≠ some (readPc s) ∧
      (∀ k < 4, executableAt s.cfg (byteAddr s.cfg (readPc s) k) = true ∧
        codeAt s.cfg (byteAddr s.cfg (readPc s) k) = true) ∧
      memByte s.mem (byteAddr s.cfg (readPc s) 3) = none) := by
  refine ⟨⟨withCfg (fun c => { c with halt := some 0x1000 }) sample, ?_⟩, ⟨jumpTo 0x2ffd sample, ?_⟩,
    ⟨jumpTo 0x1004 sample, ?_⟩, ⟨withCfg (fun c => { c with code := [⟨0x1000, 8⟩] }) (jumpTo 0x1004 sample), ?_⟩⟩ <;>
    decide +kernel

theorem witness_TrapEntry : sample.cfg.traps = .full := by decide +kernel
theorem witness_TerminalOptionEndsTheRun :
    (withCfg (fun c => { c with traps := .terminal }) sample).cfg.traps = .terminal := by decide +kernel

/-- Without user mode, and with it, from user mode. -/
theorem witness_TrapThenReturn :
    (sample.cfg.traps = .full ∧ pcAligned sample.cfg sample.pc = true ∧ sample.cfg.hasU = false ∧
      sample.priv = .machine) ∧
    ((inUser sample).cfg.traps = .full ∧ pcAligned (inUser sample).cfg (inUser sample).pc = true ∧
      (inUser sample).cfg.hasU = true ∧ (inUser sample).priv = .user) := by decide +kernel

theorem witness_MretReturnsOrIsIllegal : sample.priv = .machine ∧ (inUser sample).priv = .user := by decide +kernel

theorem witness_FpOffIsIllegal : (withFs 0 sample).mstatus.fs = 0 ∧
    opcodeOf (encode (.flw 1 10 4)) ∈ fpMajorOpcodes ∧ opcodeOf (encode (.fclassD 5 1)) ∈ fpMajorOpcodes := by
  decide +kernel

theorem witness_ReservedRoundingModeIsIllegal :
    (Instr.faddS 3 1 2 0b101).rmField = some 0b101 ∧ (Instr.fcvtDW 3 1 0b110).rmField = some 0b110 ∧
    (Instr.fmaddD 3 1 2 4 0b111).rmField = some 0b111 ∧ 5 ≤ (fcsrFrm (withFcsr 0xa0 sample).fcsr).toNat := by
  decide +kernel

/-- For each clause, the configuration it is about, and the first and last instruction of its list. -/
theorem witness_AbsentInstructionIsIllegal :
    (onRv32 sample).cfg.xlen = .rv32 ∧
    (∀ i ∈ [Instr.fcvtLS 5 1 0, .lrD 5 10 true true], i.presentIn (onRv32 sample).cfg = false) ∧
    (withCfg (fun c => { c with hasD := false }) sample).cfg.hasD = false ∧
    (∀ i ∈ [Instr.faddD 3 1 2 0, .fsgnjxD 3 1 2],
      i.presentIn (withCfg (fun c => { c with hasD := false }) sample).cfg = false) ∧
    (withCfg (fun c => { c with hasA := false }) sample).cfg.hasA = false := by decide +kernel

/-- `jal` by 2 and `jalr` to 0x2002 with IALIGN 32; an even `pc` with IALIGN 16. -/
theorem witness_MisalignedJumpTraps :
    (sample.cfg.ialign = .i32 ∧ (jalTarget sample 1).toNat % 4 ≠ 0 ∧ (jalrTarget sample 10 3).toNat % 4 ≠ 0) ∧
    ((withCfg (fun c => { c with ialign := .i16 }) sample).cfg.ialign = .i16 ∧
      (readPc (withCfg (fun c => { c with ialign := .i16 }) sample)).toNat % 2 = 0) := by decide +kernel

/-- The furthest `jal` back, which wraps below address 0, and a `jalr` to an odd sum. -/
theorem witness_JumpsLinkAndGo :
    pcAligned sample.cfg (fit sample.cfg (readPc sample + sext sample.cfg (0x80000#20 ++ 0#1))) = true ∧
    pcAligned sample.cfg (fit sample.cfg (readX sample 10 + sext sample.cfg 0x7fd#12) &&& ~~~ 1) = true := by
  decide +kernel

/-- Every width at the sample bytes; a split word at an odd address; two bytes that wrap from the top of the space to
address 0. -/
theorem witness_IntegerLoadsAndLoadReservedComplete :
    (effAddr sample 10 0 = 0x2000 ∧ Loads sample 0x2000 1 0x8877665544332281 ∧
      Loads sample 0x2000 2 0x8877665544332281 ∧ Loads sample 0x2000 4 0x8877665544332281 ∧
      Loads sample 0x2000 8 0x8877665544332281 ∧ AccessAligned sample 0x2000 8 ∧ sample.cfg.xlen = .rv64) ∧
    (effAddr sampleSplit 10 3 = 0x2003 ∧ AccessAligned sampleSplit 0x2003 4 ∧ Loads sampleSplit 0x2003 4 0x77665544) ∧
    (∃ s : State, effAddr s 0 0xfff = 0xffffffffffffffff ∧ AccessAligned s 0xffffffffffffffff 2 ∧
      Loads s 0xffffffffffffffff 2 0x0201) := by
  unfold Loads AccessAligned
  refine ⟨?_, ?_, ⟨withCfg (fun c => { c with memMap := [⟨0, 2 ^ 64, true, true, true⟩], misaligned := .split })
    (putBytes 0 [2] (putBytes (2 ^ 64 - 1) [1] sample)), ?_⟩⟩ <;> decide +kernel

/-- The load-reserved clauses of the same statement. -/
theorem witness_LoadReserved :
    sample.cfg.hasA = true ∧ (readX sample 10).toNat % 8 = 0 ∧ sample.cfg.xlen = .rv64 ∧
    Loads sample (readX sample 10) 4 0x44332281 ∧ Loads sample (readX sample 10) 8 0x8877665544332281 := by
  unfold Loads; decide +kernel

/-- Misaligned loads that trap; the last readable byte at 0x37ff and one beyond; a byte without a value. -/
theorem witness_LoadsThatDoNotComplete :
    ((0x2001 : Word) = effAddr sample 10 1 ∧ (0x2001 : Word).toNat % 2 ≠ 0 ∧ sample.cfg.misaligned = .trap) ∧
    (sample.cfg.hasA = true ∧ (0x2002 : Word) = readX (writeX 10 0x2002 sampleSplit) 10 ∧
      (0x2002 : Word).toNat % 4 ≠ 0) ∧
    ((0x37fd : Word) = effAddr (writeX 10 0x37fd sampleSplit) 10 0 ∧ sampleSplit.cfg.misaligned = .split ∧
      (∀ k < 3, readableAt sampleSplit.cfg (byteAddr sampleSplit.cfg 0x37fd k) = true) ∧
      readableAt sampleSplit.cfg (byteAddr sampleSplit.cfg 0x37fd 3) = false) ∧
    ((0x2008 : Word) = effAddr sample 10 8 ∧ (0x2008 : Word).toNat % 8 = 0 ∧ sample.mstatus.fs ≠ 0 ∧
      sample.cfg.hasD = true ∧ (∀ k < 8, readableAt sample.cfg (byteAddr sample.cfg 0x2008 k) = true) ∧
      memByte sample.mem (byteAddr sample.cfg 0x2008 0) = none) := by decide +kernel

theorem witness_FpLoadsComplete :
    sample.mstatus.fs ≠ 0 ∧ sample.cfg.hasD = true ∧ effAddr sample 10 0 = 0x2000 ∧ AccessAligned sample 0x2000 4 ∧
    Loads sample 0x2000 4 0x44332281 ∧ AccessAligned sample 0x2000 8 ∧ Loads sample 0x2000 8 0x8877665544332281 := by
  unfold Loads AccessAligned; decide +kernel

/-- The last doubleword of the writable region, and a split word across it. -/
theorem witness_FpStoresComplete :
    sample.mstatus.fs ≠ 0 ∧ sample.cfg.hasD = true ∧ effAddr (writeX 10 0x2ff8 sample) 10 0 = 0x2ff8 ∧
    AccessAligned sample 0x2ff8 8 ∧ Storable sample 0x2ff8 8 ∧ AccessAligned sample 0x2ffc 4 ∧
    Storable sample 0x2ffc 4 ∧ AccessAligned sampleSplit 0x2ff9 4 ∧ Storable sampleSplit 0x2ff9 4 := by
  unfold Storable AccessAligned; decide +kernel

/-- A misaligned store that traps; a store just beyond the writable region; stores to the loaded word; a split store
of which one writable byte is in `CODE` and two bytes are not writable. -/
theorem witness_StoresThatDoNotComplete :
    sample.mstatus.fs ≠ 0 ∧ sample.cfg.hasD = true ∧
    (effAddr sample 10 4 = 0x2004 ∧ (0x2004 : Word).toNat % 8 ≠ 0 ∧ sample.cfg.misaligned = .trap) ∧
    (effAddr (writeX 10 0x3000 sample) 10 0 = 0x3000 ∧ (0x3000 : Word).toNat % 8 = 0 ∧
      writableAt sample.cfg (byteAddr sample.cfg 0x3000 0) = false) ∧
    (effAddr (writeX 10 0x1000 sample) 10 0 = 0x1000 ∧ AccessAligned sample 0x1000 4 ∧
      (∀ k < 8, writableAt sample.cfg (byteAddr sample.cfg 0x1000 k) = true) ∧
      codeAt sample.cfg (byteAddr sample.cfg 0x1000 3) = true ∧
      codeAt sample.cfg (byteAddr sample.cfg 0x1000 4) = false) ∧
    (∃ s : State, s.mstatus.fs ≠ 0 ∧ effAddr s 10 0 = 0x2ffe ∧ (0x2ffe : Word).toNat % 4 ≠ 0 ∧
      s.cfg.misaligned = .split ∧ writableAt s.cfg (byteAddr s.cfg 0x2ffe 3) = false ∧
      writableAt s.cfg (byteAddr s.cfg 0x2ffe 0) = true ∧ codeAt s.cfg (byteAddr s.cfg 0x2ffe 0) = true) := by
  unfold AccessAligned
  refine ⟨?_, ?_, ?_, ?_, ?_, ⟨withCfg (fun c => { c with code := [⟨0x2ffe, 1⟩] }) (writeX 10 0x2ffe sampleSplit), ?_⟩⟩ <;>
    decide +kernel

/-- A split word at 0x2ffe, whose upper half is not writable. -/
theorem witness_SplitStoreFault :
    sampleSplit.mstatus.fs ≠ 0 ∧ sampleSplit.cfg.traps = .full ∧ sampleSplit.cfg.misaligned = .split ∧
    effAddr (writeX 10 0x2ffe sampleSplit) 10 0 = 0x2ffe ∧ (0x2ffe : Word).toNat % 4 ≠ 0 ∧
    writableAt sampleSplit.cfg (byteAddr sampleSplit.cfg 0x2ffe 1) = true ∧
    writableAt sampleSplit.cfg (byteAddr sampleSplit.cfg 0x2ffe 2) = false ∧
    (∀ k < 4, writableAt sampleSplit.cfg (byteAddr sampleSplit.cfg 0x2ffe k) = true →
      codeAt sampleSplit.cfg (byteAddr sampleSplit.cfg 0x2ffe k) = false) := by decide +kernel

theorem witness_StoreThenLoadRestores :
    sample.mstatus.fs ≠ 0 ∧ sample.cfg.hasD = true ∧ effAddr sample 10 0 = 0x2000 ∧ AccessAligned sample 0x2000 8 ∧
    Storable sample 0x2000 8 ∧ (∀ k < 8, readableAt sample.cfg (byteAddr sample.cfg 0x2000 k) = true) ∧
    AccessAligned sample 0x2000 4 ∧ Storable sample 0x2000 4 := by
  unfold Storable AccessAligned; decide +kernel

theorem witness_StoredBytesReadBack : 8 ≤ 8 ∧ 7 + 1 ≤ 8 ∧ 8 + 0 ≤ 8 := by decide

/-- Every static mode, and the dynamic one. -/
theorem witness_rounded_instructions :
    sample.mstatus.fs ≠ 0 ∧ sample.cfg.hasD = true ∧ sample.cfg.xlen = .rv64 ∧
    resolveRm 0b000 (fcsrFrm sample.fcsr) = some .rne ∧ resolveRm 0b001 (fcsrFrm sample.fcsr) = some .rtz ∧
    resolveRm 0b010 (fcsrFrm sample.fcsr) = some .rdn ∧ resolveRm 0b011 (fcsrFrm sample.fcsr) = some .rup ∧
    resolveRm 0b100 (fcsrFrm sample.fcsr) = some .rmm ∧
    resolveRm 0b111 (fcsrFrm (withFcsr 0x80 sample).fcsr) = some .rmm := by decide +kernel

/-- R7: the numerics of the default configuration, and another record of functions. -/
theorem test_numerics_selected : numericsOf sample.cfg = ieee754 ∧
    numericsOf (withCfg (fun c => { c with numerics := .other 3 }) sample).cfg = Config.otherNumerics 3 := ⟨rfl, rfl⟩

theorem witness_ArithmeticCompletes : sample.cfg.hasD = true ∧
    sample.mstatus.fs ≠ 0 ∧ resolveRm 0b111 (fcsrFrm sample.fcsr) = some .rne := by decide +kernel
theorem witness_FusedArithmeticCompletes : sample.cfg.hasD = true ∧
    sample.mstatus.fs ≠ 0 ∧ resolveRm 0b100 (fcsrFrm sample.fcsr) = some .rmm := by decide +kernel
theorem witness_FloatToIntegerCompletes : sample.cfg.hasD = true ∧ sample.cfg.xlen = .rv64 ∧
    sample.mstatus.fs ≠ 0 ∧ resolveRm 0b001 (fcsrFrm sample.fcsr) = some .rtz := by decide +kernel
theorem witness_IntegerToFloatCompletes : sample.cfg.hasD = true ∧ sample.cfg.xlen = .rv64 ∧
    sample.mstatus.fs ≠ 0 ∧ resolveRm 0b010 (fcsrFrm sample.fcsr) = some .rdn := by decide +kernel
theorem witness_FormatConversionsAndMovesComplete : sample.cfg.hasD = true ∧ sample.cfg.xlen = .rv64 ∧
    sample.mstatus.fs ≠ 0 ∧ resolveRm 0b000 (fcsrFrm sample.fcsr) = some .rne := by decide +kernel
theorem witness_MinMaxAndSignInjectionComplete : sample.mstatus.fs ≠ 0 ∧ sample.cfg.hasD = true := by decide +kernel
theorem witness_ComparesComplete : sample.mstatus.fs ≠ 0 ∧ sample.cfg.hasD = true := by decide +kernel
/-- Also the exponents next to the special ones. -/
theorem witness_ClassifyCompletes : sample.mstatus.fs ≠ 0 ∧ sample.cfg.hasD = true ∧ (1 : BitVec 8) ≠ 0 ∧
    (254 : BitVec 8) ≠ 255 ∧ (2046 : BitVec 11) ≠ 2047 := by decide +kernel

/-- Also the furthest `j` back, and a `jr` to 0x2000. -/
theorem witness_PseudoInstructionsComplete : sample.mstatus.fs ≠ 0 ∧ sample.cfg.hasD = true ∧
    pcAligned sample.cfg (fit sample.cfg (readPc sample + sext sample.cfg (0x80000#20 ++ 0#1))) = true ∧
    pcAligned sample.cfg (readX sample 10 &&& ~~~ 1) = true ∧
    pseudoLi sample.cfg 5 0x12345000 = some (.lui 5 0x12345) ∧
    pseudoLi sample.cfg 5 0xffffffff80000000 = some (.lui 5 0x80000) := by decide +kernel

theorem witness_BoxingAndUnboxing : Config.initial.hasD = true ∧ ({ Config.initial with hasD := false } : Config).hasD =
    false ∧ (0xfffffffe3f800000 : Word).extractLsb' 32 32 ≠ 0xffffffff#32 := by decide +kernel

/-- 5/2, a tie; the root of 2; 0. -/
theorem witness_RoundingModesPickTheirInteger :
    (Mag.ratio 5 2).Proper ∧ (Mag.root 2 1).Proper ∧ (Mag.ratio 0 1).Proper ∧
    rint .rne false (.ratio 5 2) = 2 ∧ rint .rmm false (.ratio 5 2) = 3 ∧ rint .rup true (.root 2 1) = 1 := by
  unfold Mag.Proper; decide +kernel

/-- The smallest subnormal and the largest finite single. -/
theorem witness_RepresentableRoundsToItself :
    fpVal .single 0x00000001#32 = .fin false 1 (-149) ∧ fpVal .single 0x7f7fffff#32 = .fin false 0xffffff 104 := by
  decide +kernel

theorem hasValue_of_fpVal {F : Fmt} {a : BitVec F.width} {neg : Bool} {m : Nat} {e : Int} {v : ℝ}
    (h : fpVal F a = .fin neg m e) (hv : (((if neg then -1 else 1) * m * 2 ^ e : ℚ) : ℝ) = v) : HasValue F a v := by
  rw [HasValue, h]; exact ⟨rfl, hv⟩

/-- 1, minus 1, 4 and the largest finite number, single and double. -/
theorem value_one : HasValue .single 0x3f800000#32 1 :=
  hasValue_of_fpVal (neg := false) (m := 0x800000) (e := -23) (by decide +kernel) (by norm_num)
theorem value_minus_one : HasValue .single 0xbf800000#32 (-1) :=
  hasValue_of_fpVal (neg := true) (m := 0x800000) (e := -23) (by decide +kernel) (by norm_num)
theorem value_largest : HasValue .single 0x7f7fffff#32 (0xffffff * 2 ^ (104 : ℤ)) :=
  hasValue_of_fpVal (neg := false) (m := 0xffffff) (e := 104) (by decide +kernel) (by norm_num)
theorem value_double_one : HasValue .double 0x3ff0000000000000#64 1 :=
  hasValue_of_fpVal (neg := false) (m := 0x10000000000000) (e := -52) (by decide +kernel) (by norm_num)

/-- Every operation: 1 + 1, 1 - 1, 1 × 1, 1 / 1, the root of 1, 1 × 1 + 1, the integer 7, 1 narrowed and widened; and
results rounded in each mode that have a value. -/
theorem witness_RoundedResultsBracketTheExactOne :
    ExactResult .single (fun mode => ieee754.add .single mode 0x3f800000#32 0x3f800000#32) (1 + 1) ∧
    ExactResult .single (fun mode => ieee754.sub .single mode 0x3f800000#32 0x3f800000#32) (1 - 1) ∧
    ExactResult .single (fun mode => ieee754.mul .single mode 0x3f800000#32 0x3f800000#32) (1 * 1) ∧
    ExactResult .single (fun mode => ieee754.div .single mode 0x3f800000#32 0x3f800000#32) (1 / 1) ∧
    ExactResult .single (fun mode => ieee754.sqrt .single mode 0x3f800000#32) (Real.sqrt 1) ∧
    ExactResult .single (fun mode => ieee754.fma .single mode 0x3f800000#32 0x3f800000#32 0x3f800000#32) (1 * 1 + 1) ∧
    ExactResult .double (fun mode => ieee754.fromInt .double mode 7) (7 : ℤ) ∧
    ExactResult .single (fun mode => ieee754.narrow mode 0x3ff0000000000000#64) 1 ∧
    ExactResult .double (fun _ => ieee754.widen 0x3f800000#32) 1 ∧
    (∀ mode ∈ [RoundingMode.rne, .rtz, .rdn, .rup, .rmm],
      (fpVal .single (ieee754.div .single mode 0x3f800000#32 0x40400000#32).1).isFinite = true) ∧
    (ieee754.add .single .rne 0x3f800000#32 0x3f800000#32).2.getLsbD 0 = false :=
  ⟨.add value_one value_one, .sub value_one value_one, .mul value_one value_one, .div value_one value_one one_ne_zero,
    .sqrt value_one zero_le_one, .fma value_one value_one value_one, .fromInt 7, .narrow value_double_one,
    .widen value_one, by decide +kernel, by decide +kernel⟩

/-- A tie, 1 + 2^-24: the result 1 of RNE is as near as the next value up. -/
theorem witness_NearestResults :
    ExactResult .single (fun mode => ieee754.add .single mode 0x3f800000#32 0x3f800000#32) (1 + 1) ∧
    ieee754.add .single .rne 0x3f800000#32 0x33800000#32 = (0x3f800000#32, 1) ∧
    ieee754.add .single .rmm 0x3f800000#32 0x33800000#32 = (0x3f800001#32, 1) :=
  ⟨.add value_one value_one, by decide +kernel, by decide +kernel⟩

/-- Twice the largest number overflows; 1 + 1 does not; in RDN and RTZ the overflow gives the largest number. -/
theorem witness_OverflowAndUnderflow :
    (ExactResult .single (fun mode => ieee754.add .single mode 0x7f7fffff#32 0x7f7fffff#32)
      (0xffffff * 2 ^ (104 : ℤ) + 0xffffff * 2 ^ (104 : ℤ))) ∧
    Overflows .single .rne (0xffffff * 2 ^ (104 : ℤ) + 0xffffff * 2 ^ (104 : ℤ)) ∧
    Overflows .single .rdn (0xffffff * 2 ^ (104 : ℤ) + 0xffffff * 2 ^ (104 : ℤ)) ∧
    ieee754.add .single .rdn 0x7f7fffff#32 0x7f7fffff#32 = (0x7f7fffff#32, 5) ∧
    ieee754.add .single .rup 0x7f7fffff#32 0x7f7fffff#32 = (0x7f800000#32, 5) ∧
    ¬ Overflows .single .rne (1 + 1) ∧ ¬ Tiny .single .rne (1 + 1) ∧ Tiny .single .rup (2 ^ (-150 : ℤ)) ∧
    ieee754.mul .single .rup 0x00000001#32 0x3f000000#32 = (0x00000001#32, 3) :=
  ⟨.add value_largest value_largest, by norm_num [Overflows, Fmt.emax, Fmt.fracBits],
    by norm_num [Overflows, Fmt.emax, Fmt.fracBits], by decide +kernel, by decide +kernel,
    by norm_num [Overflows, Fmt.emax, Fmt.fracBits], by norm_num [Tiny, Fmt.emin, Fmt.fracBits],
    by norm_num [Tiny, Fmt.emin, Fmt.fracBits], by decide +kernel⟩

/-- 1 and minus 1, whose sum is zero; minus 1, which has no root; -1 × 1 + 1, which is zero. -/
theorem witness_SpecialOperands :
    HasValue .single 0x3f800000#32 1 ∧ HasValue .single 0xbf800000#32 (-1) ∧ (1 : ℝ) ≠ 0 ∧ (1 : ℝ) + -1 = 0 ∧
    (-1 : ℝ) < 0 ∧ (-1 : ℝ) * 1 + 1 = 0 ∧ (fpVal .single 0xff800000#32).isNan = false ∧
    0xff800000#32 = infBits .single (!(false ^^ false)) ∧
    ieee754.add .single .rdn 0x3f800000#32 0xbf800000#32 = (0x80000000#32, 0) :=
  ⟨value_one, value_minus_one, one_ne_zero, by norm_num, by norm_num, by norm_num, by decide +kernel, by decide +kernel,
    by decide +kernel⟩

/-- A quiet and a signaling NaN, the two infinities, the two zeros, and the largest finite values. -/
theorem witness_CompareOrder :
    (fpVal .single 0x7fc00000#32).isNan = true ∧ fpVal .single 0x7fa00000#32 = .nan true ∧ fpVal .single 0xff800000#32 = .inf true ∧
    fpVal .single 0x7f800000#32 = .inf false ∧ (fpVal .single 0x80000000#32).isFinite = true ∧
    (fpVal .single 0x00000000#32).isFinite = true ∧ (fpVal .double 0x7fefffffffffffff#64).isFinite = true := by
  decide +kernel

theorem witness_MinMaxPicksAnOperand :
    (fpVal .single 0x3f800000#32).isNan = false ∧ (fpVal .single 0x7fa00000#32).isNan = true ∧
    fpVal .single 0x7fa00000#32 = .nan true ∧ fpVal .single 0x7fc00000#32 = .nan false ∧
    zeroBits .single true = 0x80000000#32 ∧ zeroBits .single false = 0x00000000#32 ∧
    (fpVal .single 0x80000000#32).isNan = false ∧ (fpVal .single 0x00000000#32).isNan = false := by decide +kernel

theorem witness_NanOperandsGiveTheCanonicalNan :
    (fpVal .single 0x7fa00000#32).isNan = true ∧ (fpVal .single 0x7fa00000#32).isSignaling = true ∧
    (fpVal .double 0x7ff8000000000001#64).isNan = true ∧ (fpVal .double 0x7ff8000000000001#64).isSignaling = false := by
  decide +kernel

/-- A quiet NaN, both infinities, and 2.5 and 2^31, which round to nearest even give 2 and, one above the signed range. -/
theorem witness_IntegerResultsAreRoundedOrSaturated :
    (fpVal .single 0x7fc00000#32).isNan = true ∧ fpVal .single 0x7f800000#32 = .inf false ∧
    fpVal .single 0xff800000#32 = .inf true ∧ (fpVal .single 0x40200000#32).isFinite = true ∧
    RoundsTo .rne (fpVal .single 0x40200000#32).toRat 2 ∧ (fpVal .single 0x4f000000#32).isFinite = true ∧
    RoundsTo .rdn (fpVal .single 0x4f000000#32).toRat 2147483648 := by
  rw [show fpVal .single 0x40200000#32 = .fin false 0xa00000 (-22) by decide +kernel,
    show fpVal .single 0x4f000000#32 = .fin false 0x800000 8 by decide +kernel]
  refine ⟨by decide +kernel, by decide +kernel, by decide +kernel, rfl, ?_, rfl, ?_⟩
  · norm_num [RoundsTo, Val.toRat, abs_of_nonneg]
  · norm_num [RoundsTo, Val.toRat]

theorem witness_ExactConversionsRoundTrip :
    (fpVal .single 0x00000001#32).isNan = false ∧ (fpVal .single 0xff800000#32).isNan = false := by decide +kernel

/-- All eight registers from machine mode, and the floating-point ones from user mode; the same serves `csrrs`, with `rs1`
`x10` or `x0`. -/
theorem witness_CsrrwCompletes :
    (∀ p ∈ csrNumbers, CsrAllowed sample p.1 p.2) ∧ CsrAllowed (inUser sample) 0x001 .fflags ∧
    CsrAllowed (inUser sample) 0x002 .frm ∧ CsrAllowed (inUser sample) 0x003 .fcsr := by
  unfold CsrAllowed FpCsr; decide +kernel
theorem witness_CsrrsCompletes : CsrAllowed sample 0x305 .mtvec ∧ CsrAllowed (inUser sample) 0x001 .fflags ∧
    (10 : XReg) ≠ 0 := by unfold CsrAllowed FpCsr; decide +kernel

/-- T206: what `mstatus` reads as with `MIE`, `MPP` 3 and `FS` 3 on RV64, in the bit places of R35. -/
theorem test_T206_mstatus_reads : MstatusReads (withFs 3 (withMie sample)) 0x8000000000007808 := by
  refine ⟨by decide +kernel, by decide +kernel, by decide +kernel, by decide +kernel, by decide +kernel,
    by decide +kernel, fun k hk => ?_⟩
  by_cases h : k < 64
  · revert hk; revert h; revert k; decide +kernel
  · exact BitVec.getLsbD_of_ge _ _ (by omega)

theorem witness_CsrChecks :
    (0x000 : BitVec 12) ∉ [0x001, 0x002, 0x003, 0x300, 0x305, 0x341, 0x342, 0x343] ∧
    (0x344 : BitVec 12) ∉ [0x001, 0x002, 0x003, 0x300, 0x305, 0x341, 0x342, 0x343] ∧
    (0x341 : BitVec 12) ∈ [0x300, 0x305, 0x341, 0x342, 0x343] ∧ (inUser sample).priv = .user := by decide +kernel

/-- An addition, and a `csrrs` to `fflags`, with flags set before. -/
theorem witness_FlagsAreSticky :
    (∃ t, exec (.faddS 3 1 2 0) (withFcsr 0x1f sample) = .next t ∧ (t.fcsr == 0x1f) = true) ∧
    (∃ t, exec (.csrrs 5 10 0x001) (withFcsr 0x11 sample) = .next t ∧ (fcsrFlags t.fcsr == 0x11) = true) ∧
    (∃ t, exec (.csrrw 5 10 0x002) (withFcsr 0x11 sample) = .next t ∧ (fcsrFlags t.fcsr == 0x11) = true) :=
  ⟨exists_of_after (by decide +kernel), exists_of_after (by decide +kernel), exists_of_after (by decide +kernel)⟩

/-- 1 by plus zero, in both formats, and a write of `fflags`. -/
theorem witness_OnlyDivisionByZeroSetsDz :
    (∃ t, exec (.fdivS 3 1 0 0) (writeF 0 0xffffffff00000000 sample) = .next t ∧ t.fcsr.getLsbD 3 = true) ∧
    (∃ t, exec (.fdivD 3 1 0 0) (writeF 1 0x3ff0000000000000 sample) = .next t ∧ t.fcsr.getLsbD 3 = true) ∧
    (∃ t, exec (.csrrw 0 10 0x001) (writeX 10 0x8 sample) = .next t ∧ t.fcsr.getLsbD 3 = true) ∧
    sample.fcsr.getLsbD 3 = false ∧ sample.mstatus.fs ≠ 0 ∧ sample.cfg.numerics = .ieee754 ∧ resolveRm 0 (fcsrFrm sample.fcsr) = some .rne ∧
    fpVal .single (readFS sample 1) = .fin false 0x800000 (-23) ∧
    fpVal .single (readFS (writeF 0 0xffffffff00000000 sample) 0) = .fin false 0 (-149) :=
  ⟨exists_of_after (by decide +kernel), exists_of_after (by decide +kernel), exists_of_after (by decide +kernel),
    by decide +kernel, by decide +kernel, rfl, by decide +kernel, by decide +kernel, by decide +kernel⟩

/-- One instruction of each of the three lists; the second sets NV, the third NX. -/
theorem witness_FlagsAnInstructionCanSet :
    sample.cfg.numerics = .ieee754 ∧
    (∃ t, exec (.fsw 1 10 0) sample = .next t ∧ (t.fcsr == 0) = true) ∧
    (∃ t, exec (.feqS 5 1 2) (writeF 1 0xffffffff7fa00000 sample) = .next t ∧ (t.fcsr == 0x10) = true) ∧
    (∃ t, exec (.fcvtSW 1 10 0) (writeX 10 0x1000001 sample) = .next t ∧ (t.fcsr == 0x01) = true) :=
  ⟨rfl, exists_of_after (by decide +kernel), exists_of_after (by decide +kernel), exists_of_after (by decide +kernel)⟩

/-- A load, and a store next to the program (`fsw f1, 0(x10)` is 0x00152027) at 0x1004. -/
theorem witness_CodeNeverChanges :
    (∃ t, step sample = .next t ∧ (readX t 5 == 0xffffffff88776655) = true) ∧
    (∃ t, step (at1000 0x00152027 |> writeX 10 0x1004) = .next t ∧ bytesAre t 0x1000 4 0x00152027 = true) ∧
    codeAt (at1000 0x00152027).cfg 0x1003 = true :=
  ⟨exists_of_after (by decide +kernel), exists_of_after (by decide +kernel), by decide +kernel⟩

/-- `mret` with `MPP` 0 leaves machine mode. -/
theorem witness_OnlyMretLeavesMachineMode :
    ∃ s : State, s.priv = .machine ∧ ∃ t, step s = .next t ∧ (t.priv == .user) = true :=
  ⟨withCfg (fun c => { c with hasU := true })
    { at1000 0x30200073 with mstatus := { mie := false, mpie := false, mpp := .user, fs := 0 } },
    by decide +kernel, exists_of_after (by decide +kernel)⟩

/-- A load in user mode, and `mret` in user mode, which traps. -/
theorem witness_UserModeIsConfined :
    (inUser sample).priv = .user ∧ (inUser (at1000 0x30200073)).priv = .user ∧
    (∃ t, step (inUser sample) = .next t ∧ (t.priv == .user) = true) ∧
    (∃ t, step (inUser (at1000 0x30200073)) = .next t ∧ trapped t 2 0x30200073 = true) :=
  ⟨by decide +kernel, by decide +kernel, exists_of_after (by decide +kernel), exists_of_after (by decide +kernel)⟩

theorem witness_sample_inv : Inv sample where
  cfg := by decide +kernel
  mem := by decide +kernel
  x := by intro i h; rfl
  f := by intro i h; rfl
  pc := by decide +kernel
  mepc := by decide +kernel
  mcause := by decide +kernel
  mtval := by decide +kernel
  mtvec := by decide +kernel
  modes := by decide +kernel
  reservation := by intro r h; exact absurd h (by rw [show sample.reservation = none by decide +kernel]; simp)

theorem witness_StepKeepsInv : Inv sample ∧ ∃ t, step sample = .next t ∧ (readPc t == 0x1004) = true :=
  ⟨witness_sample_inv, exists_of_after (by decide +kernel)⟩

theorem witness_ResetHasInv : Config.initial.wellFormed = true ∧
    ({ Config.initial with xlen := .rv32, memMap := [⟨0, 2 ^ 32, true, true, true⟩], halt := some 0xfffffffc } :
      Config).wellFormed = true := by decide +kernel

end Sys2Proof.Tests
end

section
/-! The state after reset has the invariant (R7, R50, R400). The two facts it turns on are about `pc`: RESET_PC is an
XLEN-bit value and 4-byte aligned in a well-formed configuration. Every other register holds 0. -/

namespace Sys2Proof.Machine

/-- R15: a value of XLEN bits is its own low XLEN bits. -/
theorem fit_of_lt_space {c : Config} {v : Word} (h : v.toNat < c.space) : fit c v = v :=
  BitVec.eq_of_toNat_eq (by rw [fit_toNat, Nat.mod_eq_of_lt h])

@[simp] theorem fitF_zero (c : Config) : fitF c 0#64 = 0#64 := by unfold fitF; split <;> rfl

/-- A multiple of 4 is aligned under both values of IALIGN (R26). -/
theorem pcAligned_of_mod_four {c : Config} {a : Word} (h : a.toNat % 4 = 0) : pcAligned c a = true := by
  unfold pcAligned
  cases c.ialign
  case i16 => exact beq_iff_eq.mpr (by omega)
  case i32 => exact beq_iff_eq.mpr h

/-- R7: what a well-formed configuration says of RESET_PC. -/
theorem wellFormed_resetPc {c : Config} (h : c.wellFormed = true) :
    c.resetPc.toNat < c.space ∧ c.resetPc.toNat % 4 = 0 := by
  simp only [Config.wellFormed, Bool.and_eq_true, decide_eq_true_eq] at h
  obtain ⟨⟨⟨hpc, _⟩, _⟩, _⟩ := h
  exact hpc

/-- R50, R400, field by field: `pc` is RESET_PC, the mode is M, memory and reservation are empty, the rest is 0. -/
theorem resetWith_inv {c : Config} (hc : c.wellFormed = true) : Inv (State.resetWith c) where
  cfg := hc
  mem := rfl
  x i h := by simp [State.resetWith]
  f i h := by simp [State.resetWith]
  pc := ⟨fit_of_lt_space (wellFormed_resetPc hc).1, pcAligned_of_mod_four (wellFormed_resetPc hc).2⟩
  mepc := ⟨fit_zero c, pcAligned_of_mod_four rfl⟩
  mcause := fit_zero c
  mtval := fit_zero c
  mtvec := ⟨fit_zero c, BitVec.getLsbD_zero⟩
  modes _ := ⟨rfl, rfl⟩
  reservation r h := absurd h.symm (Option.some_ne_none r)

theorem initial_wellFormed : Config.initial.wellFormed = true := by decide

/-- Settles O60: `State.reset` is the reset state of the initial configuration, which is well formed. -/
theorem resetHasInv : Obligations.ResetHasInv :=
  ⟨resetWith_inv initial_wellFormed, fun _ hc => resetWith_inv hc⟩

end Sys2Proof.Machine
end

section
/-! Laws of the control and status registers (R30 to R42, R303): what a CSR number stands for, and what a CSR write
leaves in each field of the state. Cited by the completion statements and by the statements on the whole machine. -/

namespace Sys2Proof.Machine

/-! ### Numbers and access checks (R34, R40, R42, R103) -/

/-- R103: the decoder of CSR numbers is the table of the statements. -/
theorem csrOfNum_eq_some_iff {n : BitVec 12} {r : Csr} : csrOfNum n = some r ↔ (n, r) ∈ csrNumbers := by
  unfold csrOfNum csrNumbers
  split_ifs <;> cases r <;> simp_all

/-- R40: a number without a register is none of the eight. -/
theorem csrOfNum_eq_none_iff {n : BitVec 12} :
    csrOfNum n = none ↔ n ∉ [0x001, 0x002, 0x003, 0x300, 0x305, 0x341, 0x342, 0x343] := by
  unfold csrOfNum
  split_ifs <;> simp_all

theorem isFp_iff {r : Csr} : r.isFp = true ↔ FpCsr r := by cases r <;> simp [Csr.isFp, FpCsr]

/-- R42: machine mode may access every number. -/
theorem csrPrivileged_machine (n : BitVec 12) : csrPrivileged n .machine = true := by
  have h := (n.extractLsb' 8 2).isLt
  exact decide_eq_true (Nat.le_of_lt_succ h)

/-- R42: of the eight numbers, user mode may access those of the three floating-point registers. -/
theorem csrPrivileged_user_iff {n : BitVec 12} {r : Csr} (h : (n, r) ∈ csrNumbers) :
    csrPrivileged n .user = true ↔ r.isFp = true := by
  simp only [csrNumbers, List.mem_cons, Prod.mk.injEq, List.not_mem_nil, or_false] at h
  rcases h with ⟨rfl, rfl⟩ | ⟨rfl, rfl⟩ | ⟨rfl, rfl⟩ | ⟨rfl, rfl⟩ | ⟨rfl, rfl⟩ | ⟨rfl, rfl⟩ | ⟨rfl, rfl⟩ | ⟨rfl, rfl⟩ <;>
    decide

/-- R34, R42, R303: all that the checks can answer for one of the eight numbers. -/
theorem csrFrame_of_mem {i : Instr} {n : BitVec 12} {s : State} {r : Csr} {k : Csr → Out} (hr : (n, r) ∈ csrNumbers) :
    ((csrPrivileged n s.priv = false ∨ (r.isFp = true ∧ s.mstatus.fs = 0)) ∧ csrFrame i n s k = illegal i s) ∨
      (csrPrivileged n s.priv = true ∧ (r.isFp = true → s.mstatus.fs ≠ 0) ∧ csrFrame i n s k = k r) := by
  have hr' := csrOfNum_eq_some_iff.2 hr
  obtain ⟨hno, -⟩ | ⟨r', hr'', h⟩ := csrFrame_cases i n s k
  · rw [hr'] at hno; cases hno
  · obtain rfl : r = r' := Option.some.inj (hr'.symm.trans hr'')
    exact h

theorem csrFrame_of_allowed {i : Instr} {n : BitVec 12} {s : State} {r : Csr} {k : Csr → Out}
    (h : CsrAllowed s n r) : csrFrame i n s k = k r := by
  obtain ⟨hr, hpriv, hfs⟩ := h
  have hp : csrPrivileged n s.priv = true := by
    obtain rfl | rfl | rfl | hm := hpriv
    · cases s.priv <;> decide
    · cases s.priv <;> decide
    · cases s.priv <;> decide
    · rw [hm]; exact csrPrivileged_machine n
  obtain ⟨h0 | ⟨hfp, h0⟩, -⟩ | ⟨-, -, hk⟩ := csrFrame_of_mem (i := i) (s := s) (k := k) hr
  · rw [hp] at h0; cases h0
  · exact absurd h0 (hfs (isFp_iff.1 hfp))
  · exact hk

/-! ### What a CSR write leaves in each field -/

/-- R35, R303: a write of `mstatus` sets its fields, with some legal `MPP`; the value is free only where the mode is not
supported (log 13). -/
theorem writeMstatus_eq (v : Word) (s : State) : ∃ p d, writeMstatus v s = { setMstatus v p s with draws := d } ∧
    (v.extractLsb' 11 2 = 3#2 → p = .machine) ∧ (v.extractLsb' 11 2 = 0#2 → s.cfg.hasU = true → p = .user) ∧
    (s.cfg.hasU = false → p = .machine) := by
  unfold writeMstatus
  by_cases h3 : v.extractLsb' 11 2 = 3#2
  · exact ⟨.machine, s.draws, by rw [if_pos h3]; rfl, fun _ => rfl, fun h0 => by simp [h3] at h0, fun _ => rfl⟩
  · rw [if_neg h3]
    cases hu : s.cfg.hasU with
    | false => exact ⟨.machine, s.draws, rfl, fun _ => rfl, fun _ h => (by cases h), fun _ => rfl⟩
    | true =>
      by_cases h0 : v.extractLsb' 11 2 = 0#2
      · exact ⟨.user, s.draws, by simp only [if_true, if_pos h0]; rfl, fun h => absurd h h3, fun _ _ => rfl,
          fun h => by cases h⟩
      · exact ⟨privOfBool ((Config.freeWord s.draws).getLsbD 0), s.draws + 1, by simp only [if_true, if_neg h0],
          fun h => absurd h h3, fun h => absurd h h0, fun h => by cases h⟩

section fields
variable (r : Csr) (v : Word) (s : State)

@[simp] theorem writeMstatus_cfg : (writeMstatus v s).cfg = s.cfg := by
  unfold writeMstatus; split_ifs <;> rfl
@[simp] theorem writeMstatus_x : (writeMstatus v s).x = s.x := by
  unfold writeMstatus; split_ifs <;> rfl
@[simp] theorem writeMstatus_pc : (writeMstatus v s).pc = s.pc := by
  unfold writeMstatus; split_ifs <;> rfl
@[simp] theorem writeMstatus_f : (writeMstatus v s).f = s.f := by
  unfold writeMstatus; split_ifs <;> rfl
@[simp] theorem writeMstatus_fcsr : (writeMstatus v s).fcsr = s.fcsr := by
  unfold writeMstatus; split_ifs <;> rfl
@[simp] theorem writeMstatus_mepc : (writeMstatus v s).mepc = s.mepc := by
  unfold writeMstatus; split_ifs <;> rfl
@[simp] theorem writeMstatus_mcause : (writeMstatus v s).mcause = s.mcause := by
  unfold writeMstatus; split_ifs <;> rfl
@[simp] theorem writeMstatus_mtval : (writeMstatus v s).mtval = s.mtval := by
  unfold writeMstatus; split_ifs <;> rfl
@[simp] theorem writeMstatus_mtvec : (writeMstatus v s).mtvec = s.mtvec := by
  unfold writeMstatus; split_ifs <;> rfl
@[simp] theorem writeMstatus_priv : (writeMstatus v s).priv = s.priv := by
  unfold writeMstatus; split_ifs <;> rfl
@[simp] theorem writeMstatus_reservation : (writeMstatus v s).reservation = s.reservation := by
  unfold writeMstatus; split_ifs <;> rfl
@[simp] theorem writeMstatus_mem : (writeMstatus v s).mem = s.mem := by
  unfold writeMstatus; split_ifs <;> rfl

@[simp] theorem csrWrite_cfg : (csrWrite r v s).cfg = s.cfg := by cases r <;> simp [csrWrite]
@[simp] theorem csrWrite_x : (csrWrite r v s).x = s.x := by cases r <;> simp [csrWrite]
@[simp] theorem csrWrite_pc : (csrWrite r v s).pc = s.pc := by cases r <;> simp [csrWrite]
@[simp] theorem csrWrite_f : (csrWrite r v s).f = s.f := by cases r <;> simp [csrWrite]
@[simp] theorem csrWrite_priv : (csrWrite r v s).priv = s.priv := by cases r <;> simp [csrWrite]
@[simp] theorem csrWrite_reservation : (csrWrite r v s).reservation = s.reservation := by cases r <;> simp [csrWrite]
@[simp] theorem csrWrite_mem : (csrWrite r v s).mem = s.mem := by cases r <;> simp [csrWrite]

/-- R33, R303: `fcsr` after a write of each register. -/
theorem csrWrite_fcsr : (csrWrite r v s).fcsr = match r with
    | .fflags => fcsrMake (fcsrFrm s.fcsr) (v.setWidth 5)
    | .frm => fcsrMake (v.setWidth 3) (fcsrFlags s.fcsr)
    | .fcsr => v.setWidth 8
    | _ => s.fcsr := by cases r <;> simp [csrWrite]

@[simp] theorem csrUnwritten_cfg : (csrUnwritten r s).cfg = s.cfg := by cases r <;> rfl
@[simp] theorem csrUnwritten_x : (csrUnwritten r s).x = s.x := by cases r <;> rfl
@[simp] theorem csrUnwritten_pc : (csrUnwritten r s).pc = s.pc := by cases r <;> rfl
@[simp] theorem csrUnwritten_f : (csrUnwritten r s).f = s.f := by cases r <;> rfl
@[simp] theorem csrUnwritten_fcsr : (csrUnwritten r s).fcsr = s.fcsr := by cases r <;> rfl
@[simp] theorem csrUnwritten_mepc : (csrUnwritten r s).mepc = s.mepc := by cases r <;> rfl
@[simp] theorem csrUnwritten_mcause : (csrUnwritten r s).mcause = s.mcause := by cases r <;> rfl
@[simp] theorem csrUnwritten_mtval : (csrUnwritten r s).mtval = s.mtval := by cases r <;> rfl
@[simp] theorem csrUnwritten_mtvec : (csrUnwritten r s).mtvec = s.mtvec := by cases r <;> rfl
@[simp] theorem csrUnwritten_priv : (csrUnwritten r s).priv = s.priv := by cases r <;> rfl
@[simp] theorem csrUnwritten_reservation : (csrUnwritten r s).reservation = s.reservation := by cases r <;> rfl
@[simp] theorem csrUnwritten_mem : (csrUnwritten r s).mem = s.mem := by cases r <;> rfl

theorem drawnFs_cases : drawnFs s = s.mstatus.fs ∨ drawnFs s = 3 := by unfold drawnFs; split <;> simp

/-- R37, R301: a CSR instruction that writes nothing leaves `mstatus`, but that `FS` may become 3. -/
theorem csrUnwritten_mstatus : (csrUnwritten r s).mstatus = s.mstatus ∨
    (FpCsr r ∧ (csrUnwritten r s).mstatus = { s.mstatus with fs := 3 }) := by
  unfold csrUnwritten
  cases hr : r.isFp with
  | false => exact .inl rfl
  | true =>
    simp only [if_true, settleFs_mstatus]
    obtain h | h := drawnFs_cases s <;> rw [h]
    · exact .inl rfl
    · exact .inr ⟨isFp_iff.1 hr, rfl⟩

end fields

end Sys2Proof.Machine
end

section
/-! Alignment of addresses under narrowing and masking (R15, R26, R38), and the flags that no instruction but a `csrrw`
clears (R31, R140). -/

namespace Sys2Proof.Machine

/-! ### Alignment of addresses (R15, R26, R38) -/

theorem four_dvd_space (c : Config) : 4 ∣ c.space := by unfold Config.space; cases c.xlen <;> norm_num

/-- Narrowing to XLEN bits keeps the two lowest bits. -/
theorem fit_toNat_mod_four (c : Config) (v : Word) : (fit c v).toNat % 4 = v.toNat % 4 := by
  rw [fit_toNat, Nat.mod_mod_of_dvd _ (four_dvd_space c)]

/-- R26: alignment is of the two lowest bits alone. -/
theorem pcAligned_congr {c : Config} {a b : Word} (h : a.toNat % 4 = b.toNat % 4) : pcAligned c a = pcAligned c b := by
  unfold pcAligned
  cases c.ialign with
  | i16 => simp only [show a.toNat % 2 = b.toNat % 2 by omega]
  | i32 => simp only [h]

@[simp] theorem pcAligned_fit (c : Config) (v : Word) : pcAligned c (fit c v) = pcAligned c v :=
  pcAligned_congr (fit_toNat_mod_four c v)

/-- R25: `pc + 4` is aligned when `pc` is. -/
theorem pcAligned_nextPc {s : State} (h : pcAligned s.cfg s.pc = true) : pcAligned s.cfg (nextPc s) = true := by
  have h4 : (nextPc s).toNat % 4 = s.pc.toNat % 4 := by
    have hpc := fit_toNat_mod_four s.cfg s.pc
    have hadd : (readPc s + 4).toNat % 4 = (readPc s).toNat % 4 := by
      change (readPc s + 4#64).toNat % 4 = _; bv_omega
    rw [nextPc, fit_toNat_mod_four, hadd, readPc, hpc]
  rw [pcAligned_congr h4, h]

/-- `a & ~3` is a multiple of 4. -/
theorem and_not_three_mod_four (a : Word) : (a &&& ~~~ 3#64).toNat % 4 = 0 := by
  have h : ((a &&& ~~~ 3#64).setWidth 2).toNat = 0 := by
    rw [BitVec.setWidth_and, show (~~~ 3#64).setWidth 2 = 0#2 by decide, BitVec.and_zero]; rfl
  rwa [BitVec.toNat_setWidth] at h

/-- `a & ~1` is even. -/
theorem and_not_one_mod_two (a : Word) : (a &&& ~~~ 1#64).toNat % 2 = 0 := by
  have h : ((a &&& ~~~ 1#64).setWidth 1).toNat = 0 := by
    rw [BitVec.setWidth_and, show (~~~ 1#64).setWidth 1 = 0#1 by decide, BitVec.and_zero]; rfl
  rwa [BitVec.toNat_setWidth] at h

/-- R38: a masked address is aligned. -/
@[simp] theorem pcAligned_pcMask (c : Config) (a : Word) : pcAligned c (pcMask c a) = true := by
  unfold pcAligned pcMask
  cases c.ialign with
  | i16 => exact beq_iff_eq.2 (and_not_one_mod_two a)
  | i32 => exact beq_iff_eq.2 (and_not_three_mod_four a)

/-- Narrowing to XLEN bits commutes with masking by a word. -/
theorem fit_and (c : Config) (v m : Word) : fit c (v &&& m) = fit c v &&& m := by
  unfold fit
  split
  · ext i hi; by_cases h : i < 32 <;> simp [BitVec.getLsbD_eq_getElem hi, h]
  · rfl

theorem fit_pcMask (c : Config) (a : Word) : fit c (pcMask c a) = pcMask c (fit c a) := by
  unfold pcMask; cases c.ialign <;> exact fit_and _ _ _

@[simp] theorem pcMask_pcMask (c : Config) (a : Word) : pcMask c (pcMask c a) = pcMask c a := by
  unfold pcMask; cases c.ialign <;> simp [BitVec.and_assoc]

/-! ### The flags are sticky (R31, R140)

`Effect` does not tell a `csrrs` from a `csrrw`, so this statement goes through the instructions: those that write `f` or
`x` or memory accrue, a `csrrs` ors, and a `csrrw` that may clear a flag is excluded. -/

/-- Every flag set in `s` is set in `t`. -/
def FlagsKept (s t : State) : Prop := fcsrFlags s.fcsr &&& fcsrFlags t.fcsr = fcsrFlags s.fcsr

theorem flagsKept_of_or {s t : State} {fl : FFlags} (h : fcsrFlags t.fcsr = fcsrFlags s.fcsr ||| fl) :
    FlagsKept s t := by
  rw [FlagsKept, h]; ext i hi; simp +contextual

theorem flagsKept_of_eq {s t : State} (h : fcsrFlags t.fcsr = fcsrFlags s.fcsr) : FlagsKept s t :=
  flagsKept_of_or (fl := 0) (by rw [h]; exact BitVec.or_zero.symm)

theorem flagsKept_finishF (rd : FReg) (v : Word) (fl : FFlags) (s : State) : FlagsKept s (finishF rd v fl s) :=
  flagsKept_of_or (fl := fl) (by simp [finishF])

theorem flagsKept_finishX (rd : XReg) (v : Word) (fl : FFlags) (s : State) : FlagsKept s (finishX rd v fl s) := by
  unfold finishX
  split
  · exact flagsKept_of_eq (by simp)
  · exact flagsKept_of_or (fl := fl) (by simp)

theorem flagsKept_finishInt {rd : XReg} {v : Word} {s u : State} (h : FlagsKept s u) :
    FlagsKept s (finishInt rd v u) := by
  simpa [FlagsKept, finishInt] using h

theorem flagsKept_of_raise {e : Exc} {tv : Word} {s t : State} (h : raise e tv s = .next t) : FlagsKept s t := by
  rw [(raise_next h).2]; exact flagsKept_of_eq rfl

theorem flagsKept_of_next {s t u : State} (h : (.next u : Out) = .next t) (hu : FlagsKept s u) : FlagsKept s t := by
  cases h; exact hu

theorem flagsKept_of_deliverS {rd : FReg} {r : BitVec 32 × FFlags} {s t : State} (h : deliverS rd r s = .next t) :
    FlagsKept s t := flagsKept_of_next h (flagsKept_finishF _ _ _ s)

theorem flagsKept_of_deliverD {rd : FReg} {r : BitVec 64 × FFlags} {s t : State} (h : deliverD rd r s = .next t) :
    FlagsKept s t := flagsKept_of_next h (flagsKept_finishF _ _ _ s)

theorem flagsKept_of_deliverX {rd : XReg} {w : Nat} {r : BitVec w × FFlags} {s t : State}
    (h : deliverX rd r s = .next t) : FlagsKept s t := flagsKept_of_next h (flagsKept_finishX _ _ _ s)

theorem flagsKept_of_fpFrame {i : Instr} {s t : State} {k : Out} (h : fpFrame i s k = .next t)
    (hk : k = .next t → FlagsKept s t) : FlagsKept s t := by
  obtain rfl | ⟨-, -, h1⟩ := fpFrame_next h
  · exact flagsKept_of_eq rfl
  · exact hk h1

theorem flagsKept_of_fpRounded {i : Instr} {rm : BitVec 3} {s t : State} {k : RoundingMode → Out}
    (h : fpRounded i rm s k = .next t) (hk : ∀ mode, k mode = .next t → FlagsKept s t) : FlagsKept s t := by
  obtain rfl | ⟨-, -, mode, -, h1⟩ := fpRounded_next h
  · exact flagsKept_of_eq rfl
  · exact hk mode h1

theorem flagsKept_of_present {i : Instr} {s t : State} {k : Out} (h : present i s k = .next t)
    (hk : k = .next t → FlagsKept s t) : FlagsKept s t := by
  obtain rfl | ⟨-, h1⟩ := present_next h
  · exact flagsKept_of_eq rfl
  · exact hk h1

theorem flagsKept_of_loadThen {s t : State} {strict : Bool} {a : Word} {n : Nat} {k : Word → State}
    (h : loadThen s strict a n k = .next t) (hk : ∀ v, FlagsKept s (k v)) : FlagsKept s t := by
  obtain ⟨e, -, rfl⟩ | ⟨-, v, -, rfl⟩ := loadThen_next h
  · exact flagsKept_of_eq rfl
  · exact hk v

theorem flagsKept_of_store {s t : State} {a v : Word} {n : Nat}
    (h : storeThen s a v n (fun u => advance (settleFs u)) = .next t) : FlagsKept s t := by
  obtain ⟨e, -, rfl⟩ | ⟨-, rfl⟩ | ⟨-, -, rfl⟩ := storeThen_next h <;> exact flagsKept_of_eq rfl

theorem flagsKept_of_jump {s t : State} {rd : XReg} {target : Word} (h : jumpAndLink rd target s = .next t) :
    FlagsKept s t := by
  obtain ⟨-, h1⟩ | ⟨-, h1⟩ := jumpAndLink_cases rd target s <;> rw [h1] at h
  · cases h; exact flagsKept_of_eq (by simp)
  · exact flagsKept_of_raise h

theorem flagsKept_of_intLoad {s t : State} {strict : Bool} {a : Word} {n : Nat} {rd : XReg} {f : Word → Word}
    (h : loadThen s strict a n (fun v => finishInt rd (f v) s) = .next t) : FlagsKept s t :=
  flagsKept_of_loadThen h fun _ => flagsKept_finishInt (flagsKept_of_eq rfl)

/-- R33, R303: a write that is the old value with bits set keeps every flag. -/
theorem flagsKept_csrWrite_or (r : Csr) (v : Word) (s : State) :
    FlagsKept s (csrWrite r (csrRead s r ||| v) s) := by
  cases r with
  | fflags =>
    refine flagsKept_of_or (fl := v.setWidth 5) ?_
    rw [csrWrite_fcsr]; simp [csrRead, BitVec.setWidth_or]
  | fcsr =>
    refine flagsKept_of_or (fl := v.setWidth 5) ?_
    rw [csrWrite_fcsr]; ext i hi
    simp [csrRead, fcsrFlags, show i < 8 by omega, show i < 64 by omega]
  | frm => exact flagsKept_of_eq (by rw [csrWrite_fcsr]; simp)
  | mstatus | mtvec | mepc | mcause | mtval => exact flagsKept_of_eq (by rw [csrWrite_fcsr])

/-- R303: only a write of `fflags` or `fcsr` changes a flag. -/
theorem flagsKept_csrWrite {r : Csr} (h1 : r ≠ .fflags) (h2 : r ≠ .fcsr) (v : Word) (s : State) :
    FlagsKept s (csrWrite r v s) := by
  cases r with
  | fflags => exact absurd rfl h1
  | fcsr => exact absurd rfl h2
  | frm => exact flagsKept_of_eq (by rw [csrWrite_fcsr]; simp)
  | mstatus | mtvec | mepc | mcause | mtval => exact flagsKept_of_eq (by rw [csrWrite_fcsr])

theorem flagsKept_of_csrrs {rd rs1 : XReg} {n : BitVec 12} {s t : State} (h : execCsrrs rd rs1 n s = .next t) :
    FlagsKept s t := by
  obtain rfl | ⟨r, -, -, -, h1⟩ := csrFrame_next h
  · exact flagsKept_of_eq rfl
  · cases h1
    split
    · exact flagsKept_finishInt (flagsKept_of_eq (by simp))
    · exact flagsKept_finishInt (flagsKept_csrWrite_or r _ s)

theorem flagsKept_of_csrrw {rd rs1 : XReg} {n : BitVec 12} {s t : State} (hn : n ≠ 0x001 ∧ n ≠ 0x003)
    (h : execCsrrw rd rs1 n s = .next t) : FlagsKept s t := by
  obtain rfl | ⟨r, hr, -, -, h1⟩ := csrFrame_next h
  · exact flagsKept_of_eq rfl
  · cases h1
    rw [csrOfNum_eq_some_iff] at hr
    refine flagsKept_finishInt (flagsKept_csrWrite ?_ ?_ _ s) <;> rintro rfl
    · exact hn.1 (by simpa [csrNumbers] using hr)
    · exact hn.2 (by simpa [csrNumbers] using hr)

/-- Settles O53: by the instruction, and for each shape of instruction by what it does to `fflags`. -/
theorem flagsAreSticky : Obligations.FlagsAreSticky := by
  intro i s t h hcsr
  change FlagsKept s t
  cases i
  case csrrw rd rs1 n => exact flagsKept_of_csrrw (hcsr rd rs1 n rfl) h
  case csrrs => exact flagsKept_of_csrrs h
  case faddS | fsubS | fmulS | fdivS | fsqrtS | fmaddS | fmsubS | fnmsubS | fnmaddS | fcvtSW | fcvtSWu | fcvtSL |
      fcvtSLu | fcvtSD =>
    simp only [exec, execFaddS, execFsubS, execFmulS, execFdivS, execFsqrtS, execFmaddS, execFmsubS, execFnmsubS,
      execFnmaddS, execFcvtSW, execFcvtSWu, execFcvtSL, execFcvtSLu, execFcvtSD] at h
    exact flagsKept_of_fpRounded h fun _ => flagsKept_of_deliverS
  case faddD | fsubD | fmulD | fdivD | fsqrtD | fmaddD | fmsubD | fnmsubD | fnmaddD | fcvtDW | fcvtDWu | fcvtDL |
      fcvtDLu | fcvtDS =>
    simp only [exec, execFaddD, execFsubD, execFmulD, execFdivD, execFsqrtD, execFmaddD, execFmsubD, execFnmsubD,
      execFnmaddD, execFcvtDW, execFcvtDWu, execFcvtDL, execFcvtDLu, execFcvtDS] at h
    exact flagsKept_of_fpRounded h fun _ => flagsKept_of_deliverD
  case fcvtWS | fcvtWuS | fcvtLS | fcvtLuS | fcvtWD | fcvtWuD | fcvtLD | fcvtLuD =>
    simp only [exec, execFcvtWS, execFcvtWuS, execFcvtLS, execFcvtLuS, execFcvtWD, execFcvtWuD, execFcvtLD,
      execFcvtLuD] at h
    exact flagsKept_of_fpRounded h fun _ => flagsKept_of_deliverX
  case fminS | fmaxS | fmvWX | fsgnjS | fsgnjnS | fsgnjxS =>
    simp only [exec, execFminS, execFmaxS, execFmvWX, execFsgnjS, execFsgnjnS, execFsgnjxS] at h
    exact flagsKept_of_fpFrame h flagsKept_of_deliverS
  case fminD | fmaxD | fmvDX | fsgnjD | fsgnjnD | fsgnjxD =>
    simp only [exec, execFminD, execFmaxD, execFmvDX, execFsgnjD, execFsgnjnD, execFsgnjxD] at h
    exact flagsKept_of_fpFrame h flagsKept_of_deliverD
  case fmvXW | fmvXD =>
    simp only [exec, execFmvXW, execFmvXD] at h
    exact flagsKept_of_fpFrame h flagsKept_of_deliverX
  case feqS | feqD | fltS | fltD | fleS | fleD | fclassS | fclassD =>
    simp only [exec, execFeqS, execFeqD, execFltS, execFltD, execFleS, execFleD, execFclassS, execFclassD] at h
    exact flagsKept_of_fpFrame h fun h1 => flagsKept_of_next h1 (flagsKept_finishX _ _ _ s)
  case flw | fld =>
    simp only [exec, execFlw, execFld] at h
    exact flagsKept_of_fpFrame h fun h1 => flagsKept_of_loadThen h1 fun _ => flagsKept_finishF _ _ _ s
  case fsw | fsd =>
    simp only [exec, execFsw, execFsd] at h
    exact flagsKept_of_fpFrame h flagsKept_of_store
  case fence | fenceI =>
    simp only [exec, execFence, execFenceI] at h
    exact flagsKept_of_next h (flagsKept_of_eq rfl)
  case jal | jalr =>
    simp only [exec, execJal, execJalr] at h
    exact flagsKept_of_jump h
  case lb | lbu | lh | lhu | lw =>
    simp only [exec, execLb, execLbu, execLh, execLhu, execLw] at h
    exact flagsKept_of_intLoad h
  case lwu | ld =>
    simp only [exec, execLwu, execLd] at h
    exact flagsKept_of_present h flagsKept_of_intLoad
  case lui =>
    simp only [exec, execLui] at h
    exact flagsKept_of_next h (flagsKept_finishInt (flagsKept_of_eq rfl))
  case lrW | lrD =>
    simp only [exec, execLrW, execLrD] at h
    exact flagsKept_of_present h fun h1 => flagsKept_of_loadThen h1 fun _ =>
      flagsKept_finishInt (flagsKept_of_eq rfl)
  case mret =>
    simp only [exec, execMret] at h
    split at h
    · exact flagsKept_of_next h (flagsKept_of_eq rfl)
    · exact flagsKept_of_raise h

end Sys2Proof.Machine
end

section
/-! The statements on every step (R42, R48, R80, R385): each goes by the cases of `Effect`, the list of everything a step
can do (`step_effect`). -/

namespace Sys2Proof.Machine

/-! ### What the ends of the instructions leave in the fields that the statements on a step speak of -/

@[simp] theorem finishInt_cfg (rd : XReg) (v : Word) (s : State) : (finishInt rd v s).cfg = s.cfg := by simp [finishInt]
@[simp] theorem finishInt_f (rd : XReg) (v : Word) (s : State) : (finishInt rd v s).f = s.f := by simp [finishInt]
@[simp] theorem finishInt_fcsr (rd : XReg) (v : Word) (s : State) : (finishInt rd v s).fcsr = s.fcsr := by
  simp [finishInt]
@[simp] theorem finishInt_mstatus (rd : XReg) (v : Word) (s : State) : (finishInt rd v s).mstatus = s.mstatus := by
  simp [finishInt]
@[simp] theorem finishInt_mepc (rd : XReg) (v : Word) (s : State) : (finishInt rd v s).mepc = s.mepc := by
  simp [finishInt]
@[simp] theorem finishInt_mcause (rd : XReg) (v : Word) (s : State) : (finishInt rd v s).mcause = s.mcause := by
  simp [finishInt]
@[simp] theorem finishInt_mtval (rd : XReg) (v : Word) (s : State) : (finishInt rd v s).mtval = s.mtval := by
  simp [finishInt]
@[simp] theorem finishInt_mtvec (rd : XReg) (v : Word) (s : State) : (finishInt rd v s).mtvec = s.mtvec := by
  simp [finishInt]
@[simp] theorem finishInt_priv (rd : XReg) (v : Word) (s : State) : (finishInt rd v s).priv = s.priv := by
  simp [finishInt]
@[simp] theorem finishInt_reservation (rd : XReg) (v : Word) (s : State) :
    (finishInt rd v s).reservation = s.reservation := by simp [finishInt]
@[simp] theorem finishInt_mem (rd : XReg) (v : Word) (s : State) : (finishInt rd v s).mem = s.mem := by simp [finishInt]

/-- `finishX` is `finishInt` of a state in which only `fcsr`, `FS` and the draws may differ. -/
theorem finishX_eq (rd : XReg) (v : Word) (fl : FFlags) (s : State) : ∃ c fs d,
    finishX rd v fl s = finishInt rd v { s with fcsr := c, mstatus := { s.mstatus with fs := fs }, draws := d } := by
  unfold finishX finishInt
  split
  · exact ⟨s.fcsr, drawnFs s, s.draws + 1, rfl⟩
  · exact ⟨fcsrAccrue s.fcsr fl, 3, s.draws, rfl⟩

/-! ### The program and the configuration (R48, R68, R80) -/

/-- What `CodeNeverChanges` says of two states. -/
def CodeKept (s t : State) : Prop := t.cfg = s.cfg ∧ ∀ n, codeAt s.cfg n = true → memByte t.mem n = memByte s.mem n

theorem codeKept_of_eq {s t : State} (hc : t.cfg = s.cfg) (hm : t.mem = s.mem) : CodeKept s t :=
  ⟨hc, fun n _ => by rw [hm]⟩

/-- R68: a write to writable bytes of an access that touches no writable byte of `CODE` changes no byte of `CODE`. -/
theorem memByte_writeBytes_of_code {c : Config} {take : Nat → Bool} {a v : Word} {n p : Nat} {m : List Host.Cell}
    (hc : touchesCode c a n = false) (hw : ∀ k < n, take k = true → writableAt c (byteAddr c a k) = true)
    (hp : codeAt c p = true) : memByte (writeBytes c take a v n m) p = memByte m p := by
  refine memByte_writeBytes_of_not fun k hk ht e => ?_
  rw [e, touchesCode_eq_false.1 hc k hk (hw k hk ht)] at hp
  cases hp

theorem codeKept_of_effect {s t : State} (h : Effect s t) : CodeKept s t := by
  cases h with
  | trap e tv => exact codeKept_of_eq rfl rfl
  | splitTrap a v n hn hc =>
    refine ⟨rfl, fun p hp => memByte_writeBytes_of_code hc (fun k _ ht => ?_) hp⟩
    exact ((Bool.and_eq_true _ _).mp ht).2
  | toF rd v fl hf => exact codeKept_of_eq rfl rfl
  | toX rd v fl hf =>
    obtain ⟨c, fs, d, h⟩ := finishX_eq rd v fl s
    exact codeKept_of_eq (by rw [h]; simp) (by rw [h]; simp)
  | toInt rd v => exact codeKept_of_eq (by simp) (by simp)
  | reserved rd v a n hn ha hfit => exact codeKept_of_eq (by simp) (by simp)
  | store a v n hn hf hc hw =>
    exact ⟨rfl, fun p hp => memByte_writeBytes_of_code hc (fun k hk _ => allBytes_eq_true.1 hw k hk) hp⟩
  | fence => exact codeKept_of_eq rfl rfl
  | jump rd target ha => exact codeKept_of_eq (by simp) (by simp)
  | csrWrite rd r v n hr hp hf hv => exact codeKept_of_eq (by simp) (by simp)
  | csrRead rd r n hr hp hf => exact codeKept_of_eq (by simp) (by simp)
  | ret hp => exact codeKept_of_eq rfl rfl

/-- Settles O56: a step writes memory only in a store, and a store that writes touches no byte of `CODE`. -/
theorem codeNeverChanges : Obligations.CodeNeverChanges := fun _ _ h => codeKept_of_effect (step_effect h)

/-! ### User mode (R42, R372, R385, R386) -/

theorem sameMstatusButFs_iff {s t : State} : SameMstatusButFs s t ↔
    t.mstatus.mie = s.mstatus.mie ∧ t.mstatus.mpie = s.mstatus.mpie ∧ t.mstatus.mpp = s.mstatus.mpp :=
  ⟨fun h => ⟨h.mie, h.mpie, h.mpp⟩, fun ⟨h1, h2, h3⟩ => ⟨h1, h2, h3⟩⟩

/-- R372: trap entry makes the five writes, sets the mode and `pc`, and leaves everything else alone. -/
theorem trapEntry_trapped (e : Exc) (tv : Word) (s : State) : Trapped e tv s (trapEntry e tv s) where
  mepc := by simp [readMepc, fit_pcMask]
  mcause := rfl
  mtval := rfl
  mpie := rfl
  mie := rfl
  mpp := rfl
  priv := rfl
  pc := fit_fit _ _
  x _ := rfl
  f _ := rfl
  fcsr := rfl
  fs := rfl
  mtvec := rfl
  reservation := rfl
  cfg := rfl

/-- A split store that faults has changed nothing that `Trapped` speaks of before its trap entry (R62). -/
theorem trapEntry_splitPartial_trapped (e : Exc) (tv : Word) (s : State) (a v : Word) (n : Nat) :
    Trapped e tv s (trapEntry e tv (splitPartial s a v n)) :=
  { trapEntry_trapped e tv (splitPartial s a v n) with }

/-- The mode and the registers of machine mode are the same in two states (R42, R385). -/
structure SameMachineMode (s t : State) : Prop where
  priv : t.priv = s.priv
  mepc : t.mepc = s.mepc
  mcause : t.mcause = s.mcause
  mtval : t.mtval = s.mtval
  mtvec : t.mtvec = s.mtvec
  mstatus : SameMstatusButFs s t

theorem sameMachineMode_finishInt {rd : XReg} {v : Word} {s u : State} (h : SameMachineMode s u) :
    SameMachineMode s (finishInt rd v u) := by
  obtain ⟨h1, h2, h3, h4, h5, h6⟩ := h
  rw [sameMstatusButFs_iff] at h6
  constructor <;> simpa [sameMstatusButFs_iff]

/-- R30, R303: a write of a floating-point register leaves the machine mode alone. -/
theorem sameMachineMode_csrWrite_fp {r : Csr} (hr : FpCsr r) (v : Word) (s : State) :
    SameMachineMode s (csrWrite r v s) := by
  obtain rfl | rfl | rfl := hr <;> exact ⟨rfl, rfl, rfl, rfl, rfl, rfl, rfl, rfl⟩

theorem sameMachineMode_csrUnwritten (r : Csr) (s : State) : SameMachineMode s (csrUnwritten r s) := by
  refine ⟨by simp, by simp, by simp, by simp, by simp, ?_⟩
  obtain h | ⟨-, h⟩ := csrUnwritten_mstatus r s <;> simp [sameMstatusButFs_iff, h]

/-- What any effect in user mode is: an exception, or a change that leaves the machine mode alone. -/
theorem sameMachineMode_or_trapped {s t : State} (hu : s.priv = .user) (h : Effect s t) :
    SameMachineMode s t ∨ ∃ e tv, Trapped e tv s t := by
  cases h with
  | trap e tv => exact .inr ⟨e, tv, trapEntry_trapped e tv s⟩
  | splitTrap a v n hn hc => exact .inr ⟨_, a, trapEntry_splitPartial_trapped _ a s a v n⟩
  | toF rd v fl hf => exact .inl ⟨rfl, rfl, rfl, rfl, rfl, rfl, rfl, rfl⟩
  | toX rd v fl hf =>
    obtain ⟨c, fs, d, h⟩ := finishX_eq rd v fl s
    rw [h]; exact .inl (sameMachineMode_finishInt ⟨rfl, rfl, rfl, rfl, rfl, rfl, rfl, rfl⟩)
  | toInt rd v => exact .inl (sameMachineMode_finishInt ⟨rfl, rfl, rfl, rfl, rfl, rfl, rfl, rfl⟩)
  | reserved rd v a n hn ha hfit =>
    exact .inl (sameMachineMode_finishInt ⟨rfl, rfl, rfl, rfl, rfl, rfl, rfl, rfl⟩)
  | store a v n hn hf hc hw => exact .inl ⟨rfl, rfl, rfl, rfl, rfl, rfl, rfl, rfl⟩
  | fence => exact .inl ⟨rfl, rfl, rfl, rfl, rfl, rfl, rfl, rfl⟩
  | jump rd target ha => exact .inl (by constructor <;> simp [sameMstatusButFs_iff])
  | csrWrite rd r v n hr hp hf hv =>
    rw [hu, csrPrivileged_user_iff (csrOfNum_eq_some_iff.1 hr)] at hp
    exact .inl (sameMachineMode_finishInt (sameMachineMode_csrWrite_fp (isFp_iff.1 hp) v s))
  | csrRead rd r n hr hp hf => exact .inl (sameMachineMode_finishInt (sameMachineMode_csrUnwritten r s))
  | ret hp => rw [hu] at hp; cases hp

/-- Settles O58: of the effects, only a CSR write and `mret` reach the machine-mode registers without an exception; user
mode may access only the floating-point CSRs (R42), and not `mret` (R386). -/
theorem userModeIsConfined : Obligations.UserModeIsConfined := by
  intro s t h hu
  refine (sameMachineMode_or_trapped hu (step_effect h)).imp_left fun hs => ?_
  exact ⟨hs.priv.trans hu, hs.mepc, hs.mcause, hs.mtval, hs.mtvec, hs.mstatus⟩

end Sys2Proof.Machine
end

section
/-! Every step keeps the invariant of the machine (R21, R26, R27, R35, R38, R39, R45, R64): each state operation keeps it,
so each effect does. -/

namespace Sys2Proof.Machine

/-! ### The operations keep the invariant -/

theorem inv_writeX {s : State} (h : Inv s) (rd : XReg) (v : Word) : Inv (writeX rd v s) := by
  unfold writeX
  split
  · exact h
  · refine { h with x := fun i hi => ?_ }
    simp only [Vector.getElem_set]
    split
    · exact fit_fit _ _
    · exact h.x i hi

theorem inv_writeF {s : State} (h : Inv s) (rd : FReg) (v : Word) : Inv (writeF rd v s) := by
  refine { h with f := fun i hi => ?_ }
  simp only [writeF_f, writeF_cfg, Vector.getElem_set]
  split
  · exact fitF_fitF _ _
  · exact h.f i hi

/-- The invariant says nothing of `fcsr`, `FS` and the draws. -/
theorem inv_withFp {s : State} (h : Inv s) (c : BitVec 8) (fs : BitVec 2) (d : Nat) :
    Inv { s with fcsr := c, mstatus := { s.mstatus with fs := fs }, draws := d } := { h with }

theorem inv_jumpTo {s : State} (h : Inv s) {target : Word} (ha : pcAligned s.cfg target = true) :
    Inv (jumpTo target s) := { h with pc := ⟨fit_fit _ _, by simpa using ha⟩ }

/-- R25: the next instruction is at an aligned address too. -/
theorem inv_advance {s : State} (h : Inv s) : Inv (advance s) := inv_jumpTo h (pcAligned_nextPc h.pc.2)

theorem inv_finishInt {s : State} (h : Inv s) (rd : XReg) (v : Word) : Inv (finishInt rd v s) :=
  inv_advance (inv_writeX h rd v)

theorem inv_finishF {s : State} (h : Inv s) (rd : FReg) (v : Word) (fl : FFlags) : Inv (finishF rd v fl s) :=
  inv_advance (inv_withFp (inv_writeF h rd v) (fcsrAccrue s.fcsr fl) 3 s.draws)

theorem inv_finishX {s : State} (h : Inv s) (rd : XReg) (v : Word) (fl : FFlags) : Inv (finishX rd v fl s) := by
  obtain ⟨c, fs, d, e⟩ := finishX_eq rd v fl s
  rw [e]; exact inv_finishInt (inv_withFp h c fs d) rd v

/-- R46, R60: writing bytes keeps the canonical form of the memory. -/
theorem inv_writeBytes {s : State} (h : Inv s) (take : Nat → Bool) (a v : Word) (n d : Nat) :
    Inv { s with mem := writeBytes s.cfg take a v n s.mem, draws := d } := { h with mem := writeBytes_wf h.mem n }

/-- R45, R63: a reservation is of 4 or 8 aligned bytes. -/
theorem inv_reserve {s : State} (h : Inv s) {a : Word} {n : Nat} (hn : n = 4 ∨ n = 8) (ha : a.toNat % n = 0)
    (hfit : fit s.cfg a = a) : Inv (reserve a n s) := by
  refine { h with reservation := fun r hr => ?_ }
  obtain rfl : { addr := a, size := n } = r := Option.some.inj hr
  exact ⟨hn, ha, hfit⟩

theorem fit_excCode (c : Config) (e : Exc) : fit c (excCode e) = excCode e := by
  unfold fit; cases c.xlen <;> cases e <;> rfl

theorem pcAligned_trapVector (s : State) : pcAligned s.cfg (trapVector s) = true := by
  rw [trapVector, pcAligned_fit]; exact pcAligned_of_mod_four (and_not_three_mod_four _)

/-- R372: trap entry masks `mepc`, goes to an aligned address and saves a legal mode. -/
theorem inv_trapEntry {s : State} (h : Inv s) (e : Exc) (tv : Word) : Inv (trapEntry e tv s) :=
  { h with
    pc := ⟨fit_fit _ _, pcAligned_trapVector s⟩
    mepc := ⟨fit_fit _ _, by simp⟩
    mcause := fit_excCode _ e
    mtval := fit_fit _ _
    modes := fun hu => ⟨rfl, (h.modes hu).1⟩ }

/-- R345: `mret` goes to the aligned `mepc` and, without user mode, stays in machine mode. -/
theorem inv_trapReturn {s : State} (h : Inv s) : Inv (trapReturn s) :=
  { h with
    pc := ⟨fit_fit _ _, by simp [readMepc]⟩
    modes := fun hu => by
      have hu' : s.cfg.hasU = false := hu
      simpa [hu'] using (h.modes hu').2 }

/-- R39: a write of `mtvec` never sets bit 1 of its mode. -/
theorem mtvecValue_bit_one {old : Word} (ho : old.getLsbD 1 = false) (v : Word) :
    (mtvecValue old v).getLsbD 1 = false := by
  unfold mtvecValue
  cases hv : v.getLsbD 1 with
  | false => simpa using hv
  | true => simpa using ho

theorem fit_getLsbD_of_lt {c : Config} {v : Word} {k : Nat} (hk : k < 32) : (fit c v).getLsbD k = v.getLsbD k := by
  unfold fit
  split
  · simp [hk, show k < 64 by omega]
  · rfl

/-- R303: every CSR write narrows, masks or checks what it writes. -/
theorem inv_csrWrite {s : State} (h : Inv s) (r : Csr) (v : Word) : Inv (csrWrite r v s) := by
  cases r with
  | fflags | frm | fcsr => exact inv_withFp h _ 3 s.draws
  | mstatus =>
    obtain ⟨p, d, e, -, -, hp⟩ := writeMstatus_eq v s
    rw [csrWrite, e]
    exact { h with modes := fun hu => ⟨(h.modes hu).1, hp hu⟩ }
  | mtvec =>
    refine { h with mtvec := ⟨fit_fit _ _, ?_⟩ }
    exact (fit_getLsbD_of_lt (by norm_num)).trans (mtvecValue_bit_one h.mtvec.2 v)
  | mepc => exact { h with mepc := ⟨fit_fit _ _, by simp [csrWrite]⟩ }
  | mcause => exact { h with mcause := fit_fit _ _ }
  | mtval => exact { h with mtval := fit_fit _ _ }

theorem inv_csrUnwritten {s : State} (h : Inv s) (r : Csr) : Inv (csrUnwritten r s) := by
  unfold csrUnwritten
  split
  · exact inv_withFp h s.fcsr (drawnFs s) (s.draws + 1)
  · exact h

/-! ### So every effect does -/

theorem inv_of_effect {s t : State} (h : Inv s) (he : Effect s t) : Inv t := by
  cases he with
  | trap e tv => exact inv_trapEntry h e tv
  | splitTrap a v n hn hc => exact inv_trapEntry (inv_writeBytes h _ a v n _) _ a
  | toF rd v fl hf => exact inv_finishF h rd v fl
  | toX rd v fl hf => exact inv_finishX h rd v fl
  | toInt rd v => exact inv_finishInt h rd v
  | reserved rd v a n hn ha hfit => exact inv_finishInt (inv_reserve h hn ha hfit) rd v
  | store a v n hn hf hc hw =>
    have hm : Inv (storeBytes s a v n) := inv_writeBytes h _ a v n s.draws
    exact inv_advance (inv_withFp hm s.fcsr (drawnFs (storeBytes s a v n)) (s.draws + 1))
  | fence => exact inv_advance h
  | jump rd target ha => exact inv_jumpTo (inv_writeX h rd (nextPc s)) (by simpa using ha)
  | csrWrite rd r v n hr hp hf hv => exact inv_finishInt (inv_csrWrite h r v) rd _
  | csrRead rd r n hr hp hf => exact inv_finishInt (inv_csrUnwritten h r) rd _
  | ret hp => exact inv_trapReturn h

/-- Settles O59: a step is one of the effects, and each of them keeps the invariant. -/
theorem stepKeepsInv : Obligations.StepKeepsInv := fun _ _ hi h => inv_of_effect hi (step_effect h)

end Sys2Proof.Machine
end

section
/-! The CSR instructions (R300, R301, R303): the checks, and the completion of `csrrw` and `csrrs` with the read and the
write column of the table of R303. -/

namespace Sys2Proof.Machine

/-! ### The checks (R34, R40, R42, R303) -/

theorem csrFrame_of_unmodelled {i : Instr} {n : BitVec 12} {s : State} {k : Csr → Out} (h : csrOfNum n = none) :
    csrFrame i n s k = .refused (.unmodelledCsr n) := by simp [csrFrame, h]

/-- R34, R42: a CSR access without the privilege, or to a floating-point register with `FS` 0, is illegal. -/
theorem csrFrame_of_denied {i : Instr} {n : BitVec 12} {s : State} {r : Csr} {k : Csr → Out}
    (hr : (n, r) ∈ csrNumbers) (h : csrPrivileged n s.priv = false ∨ (r.isFp = true ∧ s.mstatus.fs = 0)) :
    csrFrame i n s k = illegal i s := by
  obtain ⟨-, hk⟩ | ⟨hp, hf, -⟩ := csrFrame_of_mem (i := i) (s := s) (k := k) hr
  · exact hk
  · obtain h0 | ⟨hfp, h0⟩ := h
    · rw [hp] at h0; cases h0
    · exact absurd h0 (hf hfp)

/-- R42: the five machine-level numbers name registers that are not floating-point ones. -/
theorem exists_machine_csr {n : BitVec 12} (h : n ∈ [0x300, 0x305, 0x341, 0x342, 0x343]) :
    ∃ r, (n, r) ∈ csrNumbers ∧ r.isFp = false := by
  simp only [List.mem_cons, List.not_mem_nil, or_false] at h
  obtain rfl | rfl | rfl | rfl | rfl := h
  · exact ⟨.mstatus, by decide⟩
  · exact ⟨.mtvec, by decide⟩
  · exact ⟨.mepc, by decide⟩
  · exact ⟨.mcause, by decide⟩
  · exact ⟨.mtval, by decide⟩

theorem csrFrame_of_user {i : Instr} {n : BitVec 12} {s : State} {k : Csr → Out}
    (h : n ∈ [0x300, 0x305, 0x341, 0x342, 0x343]) (hu : s.priv = .user) : csrFrame i n s k = illegal i s := by
  obtain ⟨r, hr, hfp⟩ := exists_machine_csr h
  refine csrFrame_of_denied hr (.inl ?_)
  rw [hu, ← Bool.not_eq_true, csrPrivileged_user_iff hr, hfp]; exact Bool.false_ne_true

/-- Settles O51: both instructions are `csrFrame` and differ only in what follows the checks. -/
theorem csrChecks : Obligations.CsrChecks := by
  rintro s i rd rs1 n (rfl | rfl)
  · exact ⟨fun hn => csrFrame_of_unmodelled (csrOfNum_eq_none_iff.2 hn), fun hn hu => csrFrame_of_user hn hu⟩
  · exact ⟨fun hn => csrFrame_of_unmodelled (csrOfNum_eq_none_iff.2 hn), fun hn hu => csrFrame_of_user hn hu⟩

/-! ### The read column (R35, R303) -/

/-- A field placed at bit `j` of a word, read bit by bit. -/
theorem field_getLsbD {w : Nat} (v : BitVec w) {j k : Nat} (h : j + w ≤ 64) :
    (v.setWidth 64 <<< j).getLsbD k = (decide (j ≤ k) && v.getLsbD (k - j)) := by
  by_cases hk : k < j + w
  · have h1 : k < 64 := by omega
    by_cases hj : j ≤ k <;> simp [h1, hj]
  · have : v.getLsbD (k - j) = false := BitVec.getLsbD_of_ge v _ (by omega)
    simp [this]

theorem field_getLsbD_outside {w : Nat} (v : BitVec w) {j k : Nat} (h : j + w ≤ 64) (hk : k < j ∨ j + w ≤ k) :
    (v.setWidth 64 <<< j).getLsbD k = false := by
  rw [field_getLsbD v h]
  obtain hk | hk := hk
  · simp; omega
  · rw [BitVec.getLsbD_of_ge v _ (by omega), Bool.and_false]

/-- The fields of `mstatus` below `SD` and `UXL` (R35). -/
def mstatusLow (m : Mstatus) : Word :=
  (BitVec.ofBool m.mie).setWidth 64 <<< 3 ||| (BitVec.ofBool m.mpie).setWidth 64 <<< 7 |||
    (privBits m.mpp).setWidth 64 <<< 11 ||| m.fs.setWidth 64 <<< 13

theorem mstatusRead_rv32 {c : Config} (h : c.xlen = .rv32) (m : Mstatus) :
    mstatusRead c m = mstatusLow m ||| (BitVec.ofBool (m.fs == 3)).setWidth 64 <<< 31 := by
  simp only [mstatusRead, h, mstatusLow]

theorem mstatusRead_rv64 {c : Config} (h : c.xlen = .rv64) (m : Mstatus) :
    mstatusRead c m = mstatusLow m ||| (BitVec.ofBool (m.fs == 3)).setWidth 64 <<< 63 |||
      (if c.hasU then 2#2 else 0#2).setWidth 64 <<< 32 := by
  simp only [mstatusRead, h, mstatusLow]; cases c.hasU <;> rfl

theorem mstatusLow_outside (m : Mstatus) {k : Nat} (h : k ∉ [3, 7, 11, 12, 13, 14]) :
    (mstatusLow m).getLsbD k = false := by
  simp only [List.mem_cons, List.not_mem_nil, or_false, not_or] at h
  simp only [mstatusLow, BitVec.getLsbD_or, Bool.or_eq_false_iff]
  exact ⟨⟨⟨field_getLsbD_outside _ (by omega) (by omega), field_getLsbD_outside _ (by omega) (by omega)⟩,
    field_getLsbD_outside _ (by omega) (by omega)⟩, field_getLsbD_outside _ (by omega) (by omega)⟩

/-- The fields are read back from their places; two finite checks over the values of `mstatus`. -/
theorem mstatusRead_rv32_fields (a b : Bool) (p : Priv) (fs : BitVec 2) :
    let v := mstatusLow ⟨a, b, p, fs⟩ ||| (BitVec.ofBool (fs == 3)).setWidth 64 <<< 31
    v.getLsbD 3 = a ∧ v.getLsbD 7 = b ∧ v.extractLsb' 11 2 = (if p = .machine then 3#2 else 0#2) ∧
      v.extractLsb' 13 2 = fs ∧ v.getLsbD 31 = (fs == 3#2) := by
  revert a b fs; cases p <;> decide

theorem mstatusRead_rv64_fields (a b u : Bool) (p : Priv) (fs : BitVec 2) :
    let v := mstatusLow ⟨a, b, p, fs⟩ ||| (BitVec.ofBool (fs == 3)).setWidth 64 <<< 63 |||
      (if u then 2#2 else 0#2).setWidth 64 <<< 32
    v.getLsbD 3 = a ∧ v.getLsbD 7 = b ∧ v.extractLsb' 11 2 = (if p = .machine then 3#2 else 0#2) ∧
      v.extractLsb' 13 2 = fs ∧ v.getLsbD 63 = (fs == 3#2) ∧ v.extractLsb' 32 2 = (if u then 2#2 else 0#2) := by
  revert a b u fs; cases p <;> decide

/-- R35: what a read of `mstatus` gives, bit by bit. -/
theorem mstatusReads_mstatusRead (s : State) : MstatusReads s (mstatusRead s.cfg s.mstatus) := by
  unfold MstatusReads
  cases hx : s.cfg.xlen with
  | rv32 =>
    obtain ⟨h3, h7, h11, h13, h31⟩ := mstatusRead_rv32_fields s.mstatus.mie s.mstatus.mpie s.mstatus.mpp s.mstatus.fs
    rw [mstatusRead_rv32 hx]
    refine ⟨h3, h7, h11, h13, h31, fun k hk => ?_⟩
    simp only [List.mem_cons, List.not_mem_nil, or_false, not_or] at hk
    rw [BitVec.getLsbD_or, mstatusLow_outside _ (by simp; omega), field_getLsbD_outside _ (by omega) (by omega)]
    rfl
  | rv64 =>
    obtain ⟨h3, h7, h11, h13, h63, h32⟩ :=
      mstatusRead_rv64_fields s.mstatus.mie s.mstatus.mpie s.cfg.hasU s.mstatus.mpp s.mstatus.fs
    rw [mstatusRead_rv64 hx]
    refine ⟨h3, h7, h11, h13, h63, h32, fun k hk => ?_⟩
    simp only [List.mem_cons, List.not_mem_nil, or_false, not_or] at hk
    rw [BitVec.getLsbD_or, BitVec.getLsbD_or, mstatusLow_outside _ (by simp; omega),
      field_getLsbD_outside _ (by omega) (by omega), field_getLsbD_outside _ (by omega) (by omega)]
    rfl
/-- R38: the mask of the model is the one that the statements write out. -/
theorem pcMask_eq (c : Config) (a : Word) : pcMask c a = a &&& ~~~ (if c.ialign = .i32 then 3 else 1) := by
  unfold pcMask; cases c.ialign <;> rfl

theorem csrReads_csrRead (s : State) (r : Csr) : CsrReads s (csrRead s r) r := by
  cases r with
  | fflags | frm | fcsr | mtvec | mcause | mtval => exact rfl
  | mstatus => exact mstatusReads_mstatusRead s
  | mepc => exact congrArg (fit s.cfg) (pcMask_eq s.cfg s.mepc)

/-! ### The write column (R34, R35, R38, R39, R303) -/

theorem fit_mtvecValue {c : Config} {old v : Word} (hv : fit c v = v) : fit c (mtvecValue old v) = mtvecValue old v := by
  unfold mtvecValue
  split
  · refine fit_or ?_ ?_
    · rw [fit_and, hv]
    · have h3 : fit c 3#64 = 3#64 := by unfold fit; cases c.xlen <;> rfl
      rw [BitVec.and_comm]; change fit c (3#64 &&& old) = _; rw [fit_and, h3]; rfl
  · exact hv

theorem mtvecValue_base (old v : Word) : (mtvecValue old v).extractLsb' 2 62 = v.extractLsb' 2 62 := by
  unfold mtvecValue
  split
  · rw [BitVec.extractLsb'_or, BitVec.extractLsb'_and, BitVec.extractLsb'_and,
      show (~~~ 3 : Word).extractLsb' 2 62 = BitVec.allOnes 62 by decide,
      show (3 : Word).extractLsb' 2 62 = 0#62 by decide, BitVec.and_allOnes, BitVec.and_zero, BitVec.or_zero]
  · rfl

theorem mtvecValue_mode (old v : Word) :
    (mtvecValue old v).extractLsb' 0 2 = if v.getLsbD 1 then old.extractLsb' 0 2 else v.extractLsb' 0 2 := by
  unfold mtvecValue
  split
  · rw [BitVec.extractLsb'_or, BitVec.extractLsb'_and, BitVec.extractLsb'_and,
      show (~~~ 3 : Word).extractLsb' 0 2 = 0#2 by decide,
      show (3 : Word).extractLsb' 0 2 = BitVec.allOnes 2 by decide, BitVec.and_zero, BitVec.and_allOnes,
      BitVec.zero_or]
  · rfl

/-- R303: `csrWrite` of an XLEN-bit value is what the write column says. -/
theorem csrWritten_csrWrite (r : Csr) {v : Word} {s : State} (hv : fit s.cfg v = v) :
    CsrWritten r v s (csrWrite r v s) := by
  refine ⟨by simp, by simp, by simp, fun i => readF_congr (by simp) (by simp) i, fun n => by simp, ?_⟩
  cases r with
  | fflags | frm | fcsr => simp [FpCsr, csrWrite, sameMstatusButFs_iff, BitVec.setWidth_eq_extractLsb']
  | mstatus =>
    obtain ⟨p, d, e, h3, h0, hu⟩ := writeMstatus_eq v s
    simp only [csrWrite, e]
    simpa [FpCsr] using ⟨h3, h0, hu⟩
  | mtvec => simp [FpCsr, csrWrite, sameMstatusButFs_iff, fit_mtvecValue hv, mtvecValue_base, mtvecValue_mode]
  | mepc =>
    have e : fit s.cfg (pcMask s.cfg v) = v &&& ~~~ (if s.cfg.ialign = .i32 then 3 else 1) := by
      rw [fit_pcMask, hv, pcMask_eq]
    simpa [FpCsr, csrWrite, sameMstatusButFs_iff] using e
  | mcause => simp [FpCsr, csrWrite, sameMstatusButFs_iff, hv]
  | mtval => simp [FpCsr, csrWrite, sameMstatusButFs_iff, hv]

/-- `CsrWritten` does not speak of `x` and `pc`, the only fields that the end of the instruction writes. -/
theorem csrWritten_finishInt {r : Csr} {v w : Word} {rd : XReg} {s u : State} (h : CsrWritten r v s u) :
    CsrWritten r v s (finishInt rd w u) := by
  have hf : ∀ i, readF (finishInt rd w u) i = readF u i := fun i => by simp [finishInt]
  simpa [CsrWritten, SameF, SameMem, sameMstatusButFs_iff, hf] using h

/-- R301: with `rs1` = `x0` nothing changes but `FS`, `x[rd]` and `pc`. -/
theorem csrUntouched_finishInt (r : Csr) (w : Word) (rd : XReg) (s : State) :
    CsrUntouched (FpCsr r) s (finishInt rd w (csrUnwritten r s)) := by
  refine ⟨⟨by simp, by simp, by simp, by simp, by simp, by simp⟩, by simp, fun i => ?_, fun n => by simp, by simp, ?_⟩
  · exact readF_congr (by simp) (by simp) i
  · obtain h | ⟨hfp, h⟩ := csrUnwritten_mstatus r s
    · exact ⟨by simp [sameMstatusButFs_iff, h], .inl (by simp [h])⟩
    · exact ⟨by simp [sameMstatusButFs_iff, h], .inr ⟨hfp, by simp [h]⟩⟩

/-! ### The completion of the two instructions -/

/-- The end of an integer instruction after an operation that left `x`, `pc` and the configuration alone. -/
theorem wroteXReg_finishInt {rd : XReg} {v : Word} {s u : State} (hc : u.cfg = s.cfg) (hx : u.x = s.x)
    (hv : fit s.cfg v = v) : WroteXReg rd v s (finishInt rd v u) := by
  intro i
  rw [finishInt, readX_advance, readX_writeX, hc, hv, readX_congr hc hx]

theorem readPc_finishInt {rd : XReg} {v : Word} {s u : State} (hc : u.cfg = s.cfg) (hp : u.pc = s.pc) :
    readPc (finishInt rd v u) = nextPc s := by
  rw [finishInt, readPc_advance]; exact nextPc_congr (by simpa) (by simpa)

/-- Settles O49: past the checks, `csrrw` is the end of an integer instruction after `csrWrite`. -/
theorem csrrwCompletes : Obligations.CsrrwCompletes := by
  intro s rd rs1 n r hr
  refine ⟨finishInt rd (csrRead s r) (csrWrite r (readX s rs1) s), csrRead s r, csrFrame_of_allowed hr,
    csrReads_csrRead s r, ?_, ?_, ?_⟩
  · exact wroteXReg_finishInt (by simp) (by simp) (csrRead_fit s r)
  · exact csrWritten_finishInt (csrWritten_csrWrite r (fit_readX s rs1))
  · exact readPc_finishInt (by simp) (by simp)

/-- Settles O50: `csrrs` writes the old value with bits set, or, with `rs1` = `x0`, nothing. -/
theorem csrrsCompletes : Obligations.CsrrsCompletes := by
  intro s rd rs1 n r hr
  have hx : exec (.csrrs rd rs1 n) s = .next (finishInt rd (csrRead s r)
      (if rs1 = 0 then csrUnwritten r s else csrWrite r (csrRead s r ||| readX s rs1) s)) := csrFrame_of_allowed hr
  refine ⟨_, csrRead s r, hx, csrReads_csrRead s r, ?_⟩
  by_cases h0 : rs1 = 0
  · rw [if_pos h0]
    refine ⟨wroteXReg_finishInt (by simp) (by simp) (csrRead_fit s r), readPc_finishInt (by simp) (by simp),
      fun hne => absurd h0 hne, fun _ => csrUntouched_finishInt r _ rd s⟩
  · rw [if_neg h0]
    refine ⟨wroteXReg_finishInt (by simp) (by simp) (csrRead_fit s r), readPc_finishInt (by simp) (by simp),
      fun _ => ?_, fun he => absurd he h0⟩
    exact csrWritten_finishInt (csrWritten_csrWrite r (fit_or (csrRead_fit s r) (fit_readX s rs1)))

/-! ### `fflags`, `frm` and `fcsr` are one register (R33) -/

/-- Settles O52: `fcsrMake` puts the two parts together, and `fcsrFlags` and `fcsrFrm` take them apart. -/
theorem fcsrHasThreeNames : Obligations.FcsrHasThreeNames := by
  intro s v
  have flags (c : BitVec 8) : (c.setWidth 64).extractLsb' 0 5 = fcsrFlags c := by
    simp [fcsrFlags, BitVec.extractLsb'_setWidth_of_le]
  have frm (c : BitVec 8) : (c.setWidth 64).extractLsb' 5 3 = fcsrFrm c := by
    simp [fcsrFrm, BitVec.extractLsb'_setWidth_of_le]
  refine ⟨⟨?_, ?_⟩, ⟨?_, ?_⟩, ?_, ?_⟩
  · simp [csrRead, csrWrite, flags, BitVec.setWidth_eq_extractLsb']
  · simp [csrRead, csrWrite, frm]
  · simp [csrRead, csrWrite, frm, BitVec.setWidth_eq_extractLsb']
  · simp [csrRead, csrWrite, flags]
  · simp [csrRead, csrWrite, fcsrFlags, BitVec.extractLsb'_setWidth_of_le]
  · simp [csrRead, csrWrite, fcsrFrm, BitVec.extractLsb'_setWidth_of_le]

end Sys2Proof.Machine
end

section
/-! The floating-point unit switched off (R34, R37), jumps to misaligned targets (R26, R322), the step at a decoded word
(R20, R69) and the reset state (R50). -/

namespace Sys2Proof.Machine

/-! ### `FS` 0 (R34, R37) -/

/-- R37, R155: every instruction of the seven floating-point opcodes is in the common frame. -/
theorem exec_eq_fpFrame {i : Instr} (h : opcodeOf (encode i) ∈ fpMajorOpcodes) (s : State) :
    ∃ k, exec i s = fpFrame i s k := by
  cases i
  case csrrw | csrrs | jalr | lb | lbu | lh | lhu | lw | lwu | ld | fenceI =>
    rw [encode, opcodeOf_encI] at h; exact absurd h (by decide)
  case lrW | lrD => rw [encode, opcodeOf_encA] at h; exact absurd h (by decide)
  case fence => rw [encode, opcodeOf_encFence] at h; exact absurd h (by decide)
  case jal => rw [encode, opcodeOf_encJ] at h; exact absurd h (by decide)
  case lui => rw [encode, opcodeOf_encU] at h; exact absurd h (by decide)
  case mret => rw [encode, opcodeOf_encR] at h; exact absurd h (by decide)
  all_goals exact ⟨_, rfl⟩

theorem fpFrame_of_off {i : Instr} {s : State} {k : Out} (h : s.mstatus.fs = 0) : fpFrame i s k = illegal i s := by
  obtain ⟨-, hf, -⟩ | ⟨-, hk⟩ := fpFrame_cases i s k
  · exact absurd h hf
  · exact hk

/-- R34: the three numbers that `FS` gates. -/
theorem exists_fp_csr {n : BitVec 12} (h : n = 0x001 ∨ n = 0x002 ∨ n = 0x003) :
    ∃ r, (n, r) ∈ csrNumbers ∧ r.isFp = true := by
  obtain rfl | rfl | rfl := h
  · exact ⟨.fflags, by decide⟩
  · exact ⟨.frm, by decide⟩
  · exact ⟨.fcsr, by decide⟩

/-- Settles O13: with `FS` 0 the common frame of the floating-point instructions and the CSR checks are both illegal. -/
theorem fpOffIsIllegal : Obligations.FpOffIsIllegal := by
  intro s hfs
  refine ⟨fun i hi => ?_, fun rd rs1 n hn => ?_⟩
  · obtain ⟨k, hk⟩ := exec_eq_fpFrame hi s
    exact hk.trans (fpFrame_of_off hfs)
  · obtain ⟨r, hr, hfp⟩ := exists_fp_csr hn
    exact ⟨csrFrame_of_denied hr (.inr ⟨hfp, hfs⟩), csrFrame_of_denied hr (.inr ⟨hfp, hfs⟩)⟩

/-! ### Misaligned jump targets (R26, R320, R321, R322) -/

/-- R322: a jump whose target is no multiple of 4 raises the exception when IALIGN is 32. -/
theorem jumpAndLink_of_misaligned {rd : XReg} {target : Word} {s : State} (hi : s.cfg.ialign = .i32)
    (ht : target.toNat % 4 ≠ 0) :
    jumpAndLink rd target s = raise .instructionAddressMisaligned target s := by
  obtain ⟨ha, -⟩ | ⟨-, h⟩ := jumpAndLink_cases rd target s
  · rw [pcAligned, hi] at ha; exact absurd (beq_iff_eq.1 ha) ht
  · exact h

/-- R26: with IALIGN 16, an even address is aligned. -/
theorem pcAligned_of_even {c : Config} {a : Word} (hi : c.ialign = .i16) (ha : a.toNat % 2 = 0) :
    pcAligned c a = true := by
  rw [pcAligned, hi]; exact beq_iff_eq.2 ha

theorem toNat_even_iff {w : Nat} {a : BitVec w} : a.toNat % 2 = 0 ↔ a.getLsbD 0 = false := by
  rw [← BitVec.testBit_toNat, Nat.testBit_zero, decide_eq_false_iff_not]; omega

theorem fit_toNat_mod_two (c : Config) (v : Word) : (fit c v).toNat % 2 = v.toNat % 2 := by
  have := fit_toNat_mod_four c v; omega

/-- R102: the offset of a `jal` is even. -/
theorem jalOffset_even (c : Config) (off : BitVec 20) : (jalOffset c off).toNat % 2 = 0 := by
  rw [jalOffset, sext, fit_toNat_mod_two, toNat_even_iff, BitVec.getLsbD_signExtend, BitVec.getLsbD_append]
  rfl

theorem jalTarget_even {s : State} (hp : (readPc s).toNat % 2 = 0) (off : BitVec 20) :
    (jalTarget s off).toNat % 2 = 0 := by
  have ho := jalOffset_even s.cfg off
  rw [jalTarget, fit_toNat_mod_two]; bv_omega

/-- Settles O16: the offset of `jal` is even (R102), and `jalr` clears bit 0 of its target (R321). -/
theorem misalignedJumpTraps : Obligations.MisalignedJumpTraps := by
  intro s rd rs1 off imm
  refine ⟨fun hi => ⟨jumpAndLink_of_misaligned hi, jumpAndLink_of_misaligned hi⟩, fun hi hp => ⟨?_, ?_⟩⟩
  · exact pcAligned_of_even hi (jalTarget_even hp off)
  · exact pcAligned_of_even hi (and_not_one_mod_two _)

/-! ### A step at a word that decodes (R20, R61, R69) -/

/-- R61: byte `k` of a word put together from its bytes. -/
theorem byteOf_word (b0 b1 b2 b3 : Byte) : let v := (b3 ++ b2 ++ b1 ++ b0).setWidth 64
    byteOf v 0 = b0 ∧ byteOf v 1 = b1 ∧ byteOf v 2 = b2 ∧ byteOf v 3 = b3 := by
  have narrow {k : Nat} (hk : 8 * k + 8 ≤ 64) :
      byteOf ((b3 ++ b2 ++ b1 ++ b0).setWidth 64) k = (b3 ++ b2 ++ b1 ++ b0).extractLsb' (8 * k) 8 :=
    BitVec.extractLsb'_setWidth_of_le hk
  refine ⟨?_, ?_, ?_, ?_⟩ <;> rw [narrow (by norm_num)]
  · rw [extract_append_low _ _ (by norm_num), extract_all]
  · rw [extract_append_high _ _ (by norm_num), extract_append_low _ _ (by norm_num), extract_all]
  · rw [extract_append_high _ _ (by norm_num), extract_append_high _ _ (by norm_num),
      extract_append_low _ _ (by norm_num), extract_all]
  · rw [extract_append_high _ _ (by norm_num), extract_append_high _ _ (by norm_num),
      extract_append_high _ _ (by norm_num), extract_all]

/-- R61, R69: what is fetched when the four bytes at `pc` may be executed and have a value. -/
theorem fetch_of_bytes {s : State} {b0 b1 b2 b3 : Byte}
    (hx : ∀ k < 4, executableAt s.cfg (byteAddr s.cfg (readPc s) k) = true ∧
      codeAt s.cfg (byteAddr s.cfg (readPc s) k) = true)
    (h0 : memByte s.mem (byteAddr s.cfg (readPc s) 0) = some b0)
    (h1 : memByte s.mem (byteAddr s.cfg (readPc s) 1) = some b1)
    (h2 : memByte s.mem (byteAddr s.cfg (readPc s) 2) = some b2)
    (h3 : memByte s.mem (byteAddr s.cfg (readPc s) 3) = some b3) : fetch s = .word (b3 ++ b2 ++ b1 ++ b0) := by
  obtain ⟨e0, e1, e2, e3⟩ := byteOf_word b0 b1 b2 b3
  have hb : ∀ k < 4, memByte s.mem (byteAddr s.cfg (readPc s) k) =
      some (byteOf ((b3 ++ b2 ++ b1 ++ b0).setWidth 64) k)
    | 0, _ => by rw [h0, e0]
    | 1, _ => by rw [h1, e1]
    | 2, _ => by rw [h2, e2]
    | 3, _ => by rw [h3, e3]
  have hex := allBytes_eq_true.2 fun k hk => (hx k hk).1
  have hco := allBytes_eq_true.2 fun k hk => (hx k hk).2
  simp [fetch, hex, hco, readBytes_of_bytes (by norm_num) hb]

/-- Settles O6: the four bytes are the word that `fetch` finds, and `runWord` performs what it decodes to. -/
theorem stepRunsDecodedInstruction : Obligations.StepRunsDecodedInstruction := by
  intro s i b0 b1 b2 b3 hh hx h0 h1 h2 h3 hd
  rw [step_of_fetch hh (fetch_of_bytes hx h0 h1 h2 h3), runWord]
  rw [decodeBytes] at hd
  rw [hd]

/-! ### The reset state (R50, R400) -/

/-- Settles O8: each value stands in the definition of the reset state. -/
theorem resetState : Obligations.ResetState := fun _ => ⟨rfl, rfl, rfl, rfl, rfl, rfl⟩

end Sys2Proof.Machine
end

section
/-! The exact reals of file 40: the number a `Mag` stands for, and what each function on magnitudes says of it (floor, half,
power of two, logarithm, the integers that the modes to nearest pick). -/

namespace Sys2Proof.Machine

/-- The number that a magnitude stands for. -/
noncomputable def magReal : Mag → ℝ
  | .ratio n d => (n : ℝ) / d
  | .root n d => √((n : ℝ) / d)

theorem magReal_nonneg (m : Mag) : 0 ≤ magReal m := by cases m <;> simp only [magReal] <;> positivity

/-! ### The integer square root -/

/-- Bit by bit from bit `k` down: what is left to find is below `2^(k+1)`. -/
theorem isqrtGo_spec (n : Nat) : ∀ k acc, acc * acc ≤ n → n < (acc + 2 ^ (k + 1)) * (acc + 2 ^ (k + 1)) →
    isqrtGo n k acc * isqrtGo n k acc ≤ n ∧ n < (isqrtGo n k acc + 1) * (isqrtGo n k acc + 1)
  | 0, acc, hlo, hhi => by
    simp only [isqrtGo]
    split
    · next h => exact ⟨h, by simpa [Nat.add_assoc] using hhi⟩
    · next h => exact ⟨hlo, Nat.lt_of_not_le h⟩
  | k + 1, acc, hlo, hhi => by
    simp only [isqrtGo]
    split
    · next h =>
      refine isqrtGo_spec n k _ h ?_
      rwa [Nat.add_assoc, ← Nat.two_mul, ← Nat.pow_succ']
    · next h => exact isqrtGo_spec n k _ hlo (Nat.lt_of_not_le h)

theorem isqrt_eq_sqrt (n : Nat) : isqrt n = Nat.sqrt n := by
  refine Nat.eq_sqrt.2 (isqrtGo_spec n _ 0 (Nat.zero_le n) ?_)
  rw [Nat.zero_add, ← Nat.pow_add]
  exact Nat.lt_of_lt_of_le Nat.lt_log2_self (Nat.pow_le_pow_right (by norm_num) (by omega))

/-! ### Scaling by a power of two -/

theorem magScale_proper {m : Mag} (h : m.Proper) (k : Int) : (magScale m k).Proper := by
  cases m <;> simp only [magScale] <;> split <;> simp only [Mag.Proper] at h ⊢ <;> positivity

theorem zpow_toNat {k : Int} (h : 0 ≤ k) (b : ℝ) : b ^ k.toNat = b ^ k := by
  rw [← zpow_natCast, Int.toNat_of_nonneg h]

theorem zpow_neg_toNat {k : Int} (h : ¬ 0 ≤ k) (b : ℝ) : b ^ (-k).toNat = (b ^ k)⁻¹ := by
  rw [zpow_toNat (by omega), zpow_neg]

theorem magReal_magScale (m : Mag) (k : Int) : magReal (magScale m k) = magReal m * 2 ^ k := by
  have h2 : (0 : ℝ) < 2 ^ k := by positivity
  have h4 : (4 : ℝ) ^ k = (2 ^ k) ^ 2 := by
    rw [show (4 : ℝ) = 2 * 2 by norm_num, mul_zpow, sq]
  have hroot (x : ℝ) : √(x * (2 ^ k) ^ 2) = √x * 2 ^ k := by
    rw [Real.sqrt_mul' _ (by positivity), Real.sqrt_sq h2.le]
  cases m with
  | ratio n d =>
    simp only [magScale]
    split
    · next h => simp only [magReal]; push_cast; rw [zpow_toNat h]; ring
    · next h => simp only [magReal]; push_cast; rw [zpow_neg_toNat h]; field_simp
  | root n d =>
    simp only [magScale]
    split
    · next h => simp only [magReal]; push_cast; rw [zpow_toNat h, h4, ← hroot]; congr 1; ring
    · next h => simp only [magReal]; push_cast; rw [zpow_neg_toNat h, h4, ← hroot]; congr 1; field_simp

theorem magOf_proper (k : Nat) (e : Int) : (magOf k e).Proper := magScale_proper (m := .ratio k 1) Nat.one_pos e

theorem magReal_magOf (k : Nat) (e : Int) : magReal (magOf k e) = k * 2 ^ e := by
  rw [magOf, magReal_magScale]; simp [magReal]

/-! ### The floor and the half (R137) -/

theorem magFloor_le {m : Mag} (h : m.Proper) : (magFloor m : ℝ) ≤ magReal m := by
  cases m with
  | ratio n d => exact Nat.cast_div_le
  | root n d =>
    refine Real.le_sqrt_of_sq_le (le_trans ?_ (Nat.cast_div_le (α := ℝ)))
    rw [magFloor, isqrt_eq_sqrt, sq]
    exact_mod_cast Nat.sqrt_le (n / d)

theorem lt_magFloor_add_one {m : Mag} (h : m.Proper) : magReal m < magFloor m + 1 := by
  cases m with
  | ratio n d =>
    have hd : (0 : ℝ) < d := Nat.cast_pos.2 h
    rw [magReal, div_lt_iff₀ hd]
    exact_mod_cast Nat.lt_mul_of_div_lt (Nat.lt_succ_self (n / d)) h
  | root n d =>
    have hd : (0 : ℝ) < d := Nat.cast_pos.2 h
    rw [magReal, Real.sqrt_lt' (by positivity), div_lt_iff₀ hd, magFloor, isqrt_eq_sqrt, sq]
    exact_mod_cast Nat.lt_mul_of_div_lt (Nat.lt_succ_sqrt (n / d)) h

theorem magFloor_eq {m : Mag} (h : m.Proper) : magFloor m = ⌊magReal m⌋₊ :=
  ((Nat.floor_eq_iff (magReal_nonneg m)).2 ⟨magFloor_le h, lt_magFloor_add_one h⟩).symm

/-- `magHalf` orders the number against its floor plus one half. -/
theorem magHalf_cases {m : Mag} (h : m.Proper) :
    (magHalf m = .lt ∧ magReal m < magFloor m + 1 / 2) ∨ (magHalf m = .eq ∧ magReal m = magFloor m + 1 / 2) ∨
      (magHalf m = .gt ∧ magFloor m + 1 / 2 < magReal m) := by
  cases m with
  | ratio n d =>
    have hd : (0 : ℝ) < d := Nat.cast_pos.2 h
    have hn : (n : ℝ) = d * (n / d : ℕ) + (n % d : ℕ) := by exact_mod_cast (Nat.div_add_mod n d).symm
    have e : (n : ℝ) / d = (n / d : ℕ) + (n % d : ℕ) / d := by rw [hn]; field_simp
    simp only [magHalf, magReal, magFloor, e, add_lt_add_iff_left, add_right_inj, Nat.compare_eq_lt,
      Nat.compare_eq_eq, Nat.compare_eq_gt, div_lt_iff₀ hd, lt_div_iff₀ hd, div_eq_iff hd.ne']
    obtain hlt | heq | hgt := lt_trichotomy (2 * (n % d)) d
    · refine .inl ⟨hlt, ?_⟩
      have : (2 : ℝ) * (n % d : ℕ) < d := by exact_mod_cast hlt
      linarith
    · refine .inr (.inl ⟨heq, ?_⟩)
      have : (2 : ℝ) * (n % d : ℕ) = d := by exact_mod_cast heq
      linarith
    · refine .inr (.inr ⟨hgt, ?_⟩)
      have : (d : ℝ) < 2 * (n % d : ℕ) := by exact_mod_cast hgt
      linarith
  | root n d =>
    have hd : (0 : ℝ) < d := Nat.cast_pos.2 h
    simp only [magHalf, magReal, magFloor]
    generalize isqrt (n / d) = q
    have hq : (0 : ℝ) < q + 1 / 2 := by positivity
    have hsq : ((q : ℝ) + 1 / 2) ^ 2 * d * 4 = (d * ((2 * q + 1) * (2 * q + 1)) : ℕ) := by push_cast; ring
    obtain hlt | heq | hgt := lt_trichotomy (4 * n) (d * ((2 * q + 1) * (2 * q + 1)))
    · refine .inl ⟨Nat.compare_eq_lt.2 hlt, ?_⟩
      have : (4 : ℝ) * n < (d * ((2 * q + 1) * (2 * q + 1)) : ℕ) := by exact_mod_cast hlt
      rw [Real.sqrt_lt' hq, div_lt_iff₀ hd]; linarith
    · refine .inr (.inl ⟨Nat.compare_eq_eq.2 heq, ?_⟩)
      have : (4 : ℝ) * n = (d * ((2 * q + 1) * (2 * q + 1)) : ℕ) := by exact_mod_cast heq
      rw [Real.sqrt_eq_iff_mul_self_eq_of_pos hq, ← sq, eq_div_iff hd.ne']; linarith
    · refine .inr (.inr ⟨Nat.compare_eq_gt.2 hgt, ?_⟩)
      have : ((d * ((2 * q + 1) * (2 * q + 1)) : ℕ) : ℝ) < 4 * n := by exact_mod_cast hgt
      rw [Real.lt_sqrt hq.le, lt_div_iff₀ hd]; linarith

/-! ### The integers that the modes to nearest pick (R137) -/

/-- R32: to nearest, with the even one of two that are equally near. -/
theorem rint_rne {u : Mag} (h : u.Proper) (neg : Bool) :
    |(rint .rne neg u : ℝ) - magReal u| ≤ 1 / 2 ∧
      (|(rint .rne neg u : ℝ) - magReal u| = 1 / 2 → rint .rne neg u % 2 = 0) := by
  have h1 := magFloor_le h
  have h2 := lt_magFloor_add_one h
  obtain ⟨hc, h3⟩ | ⟨hc, h3⟩ | ⟨hc, h3⟩ := magHalf_cases h <;> simp only [rint, hc]
  · rw [abs_of_nonpos (by linarith)]
    exact ⟨by linarith, fun e => by linarith⟩
  · split
    · next he => exact ⟨by rw [h3]; norm_num [abs_of_pos], fun _ => he⟩
    · next he => exact ⟨by rw [h3]; push_cast; norm_num, fun _ => by omega⟩
  · push_cast
    rw [abs_of_nonneg (by linarith)]
    exact ⟨by linarith, fun e => by linarith⟩

/-- R32: to nearest, with the larger one of two that are equally near. -/
theorem rint_rmm {u : Mag} (h : u.Proper) (neg : Bool) :
    |(rint .rmm neg u : ℝ) - magReal u| ≤ 1 / 2 ∧
      (|(rint .rmm neg u : ℝ) - magReal u| = 1 / 2 → magReal u < rint .rmm neg u) := by
  have h1 := magFloor_le h
  have h2 := lt_magFloor_add_one h
  obtain ⟨hc, h3⟩ | ⟨hc, h3⟩ | ⟨hc, h3⟩ := magHalf_cases h <;>
    simp only [rint, hc, reduceCtorEq, if_true, if_false]
  · rw [abs_of_nonpos (by linarith)]
    exact ⟨by linarith, fun e => by linarith⟩
  · push_cast
    rw [abs_of_nonneg (by linarith)]
    exact ⟨by linarith, fun e => by linarith⟩
  · push_cast
    rw [abs_of_nonneg (by linarith)]
    exact ⟨by linarith, fun e => by linarith⟩

/-! ### Powers of two and the logarithm -/

theorem magLtPow2_iff {m : Mag} (h : m.Proper) (k : Int) : magLtPow2 m k = true ↔ magReal m < 2 ^ k := by
  have hk : (0 : ℝ) < 2 ^ k := by positivity
  rw [magLtPow2, beq_iff_eq, magFloor_eq (magScale_proper h _), Nat.floor_eq_zero, magReal_magScale, zpow_neg,
    ← div_eq_mul_inv, div_lt_one hk]

/-- `2^e` is the greatest power of two not above `x`. -/
def IsLog2 (x : ℝ) (e : Int) : Prop := (2 : ℝ) ^ e ≤ x ∧ x < 2 ^ (e + 1)

theorem IsLog2.unique {x : ℝ} {d e : Int} (hd : IsLog2 x d) (he : IsLog2 x e) : d = e := by
  have h1 : d < e + 1 := (zpow_lt_zpow_iff_right₀ (by norm_num : (1 : ℝ) < 2)).1 (hd.1.trans_lt he.2)
  have h2 : e < d + 1 := (zpow_lt_zpow_iff_right₀ (by norm_num : (1 : ℝ) < 2)).1 (he.1.trans_lt hd.2)
  omega

theorem natLog2_isLog2 {n : Nat} (h : n ≠ 0) : IsLog2 n n.log2 := by
  have h1 := Nat.log2_self_le h
  have h2 := Nat.lt_log2_self (n := n)
  constructor
  · rw [zpow_natCast]; exact_mod_cast h1
  · rw [show ((n.log2 : Int) + 1) = ((n.log2 + 1 : Nat) : Int) by push_cast; rfl, zpow_natCast]
    exact_mod_cast h2

/-- A quotient is within a factor of two of the quotient of the powers, and one comparison decides. -/
theorem ratio_isLog2 {n d : Nat} (hn : n ≠ 0) (hd : 0 < d) :
    IsLog2 ((n : ℝ) / d) (magLog2 (.ratio n d)) := by
  obtain ⟨n1, n2⟩ := natLog2_isLog2 hn
  obtain ⟨d1, d2⟩ := natLog2_isLog2 hd.ne'
  have hd0 : (0 : ℝ) < d := Nat.cast_pos.2 hd
  have hlt := magLtPow2_iff (m := .ratio n d) hd ((n.log2 : Int) - d.log2)
  simp only [magLog2]
  split
  · next h =>
    refine ⟨?_, by rw [sub_add_cancel]; exact hlt.1 h⟩
    rw [le_div_iff₀ hd0]
    calc (2 : ℝ) ^ ((n.log2 : Int) - d.log2 - 1) * d ≤ 2 ^ ((n.log2 : Int) - d.log2 - 1) * 2 ^ ((d.log2 : Int) + 1) := by
          gcongr
      _ = 2 ^ (n.log2 : Int) := by rw [← zpow_add₀ (by norm_num)]; congr 1; ring
      _ ≤ n := n1
  · next h =>
    refine ⟨not_lt.1 (mt hlt.2 h), ?_⟩
    rw [div_lt_iff₀ hd0]
    calc (n : ℝ) < 2 ^ ((n.log2 : Int) + 1) := n2
      _ = 2 ^ ((n.log2 : Int) - d.log2 + 1) * 2 ^ (d.log2 : Int) := by
          rw [← zpow_add₀ (by norm_num)]; congr 1; ring
      _ ≤ 2 ^ ((n.log2 : Int) - d.log2 + 1) * d := by gcongr

/-- The logarithm of a root is half the logarithm, rounded down. -/
theorem IsLog2.sqrt {x : ℝ} {e : Int} (h : IsLog2 x e) : IsLog2 (√x) (e / 2) := by
  have hsq (k : Int) : ((2 : ℝ) ^ k) ^ 2 = 2 ^ (2 * k) := by rw [← zpow_natCast, ← zpow_mul, mul_comm]; rfl
  constructor
  · refine Real.le_sqrt_of_sq_le (le_trans ?_ h.1)
    rw [hsq]; exact zpow_le_zpow_right₀ (by norm_num) (by omega)
  · rw [Real.sqrt_lt' (by positivity), hsq]
    exact h.2.trans_le (zpow_le_zpow_right₀ (by norm_num) (by omega))

theorem magLog2_isLog2 {m : Mag} (h : m.Proper) (hpos : 0 < magReal m) : IsLog2 (magReal m) (magLog2 m) := by
  cases m with
  | ratio n d =>
    refine ratio_isLog2 ?_ h
    rintro rfl; simp [magReal] at hpos
  | root n d =>
    refine IsLog2.sqrt (ratio_isLog2 ?_ h)
    rintro rfl; simp [magReal] at hpos

end Sys2Proof.Machine
end

section
/-! The patterns of file 40: the fields of a packed pattern, the value it has, and the values of a format (R130 to R134,
R146). -/

namespace Sys2Proof.Machine

/-! ### The parameters of a format -/

/-- The bits above the fraction field: `E` and the sign. -/
theorem width_eq (F : Fmt) : F.width = F.expBits + F.fracBits + 1 := by cases F <;> rfl

theorem fpExpMax_eq (F : Fmt) : (fpExpMax F : Int) = 2 * F.emax + 1 := by cases F <;> decide

theorem emin_eq (F : Fmt) : F.emin = 1 - F.emax := by cases F <;> rfl

theorem fpExpMax_lt (F : Fmt) : fpExpMax F < 2 ^ F.expBits := by cases F <;> decide

theorem fracBits_pos (F : Fmt) : 0 < F.fracBits := by cases F <;> decide

/-! ### The fields of a packed pattern (R130 to R132) -/

/-- A packed pattern is its three fields side by side: sign and exponent are `E + 2^w` or `E`, above the fraction. -/
theorem fpPack_toNat {F : Fmt} {neg : Bool} {E T : Nat} (hE : E < 2 ^ F.expBits) (hT : T < 2 ^ F.fracBits) :
    (fpPack F neg E T).toNat = (neg.toNat * 2 ^ F.expBits + E) * 2 ^ F.fracBits + T := by
  have hs : (if neg then 2 ^ (F.width - 1) else 0) = neg.toNat * 2 ^ F.expBits * 2 ^ F.fracBits := by
    rw [width_eq, Nat.add_sub_cancel, Nat.mul_assoc, ← Nat.pow_add]; cases neg <;> simp
  rw [fpPack, BitVec.toNat_ofNat, hs, ← Nat.add_mul]
  refine Nat.mod_eq_of_lt ?_
  have hn : neg.toNat < 2 := Bool.toNat_lt neg
  calc (neg.toNat * 2 ^ F.expBits + E) * 2 ^ F.fracBits + T
      < (neg.toNat * 2 ^ F.expBits + E + 1) * 2 ^ F.fracBits := by rw [Nat.add_mul _ 1, Nat.one_mul]; omega
    _ ≤ (2 * 2 ^ F.expBits) * 2 ^ F.fracBits := Nat.mul_le_mul_right _ (by
        have : neg.toNat * 2 ^ F.expBits ≤ 1 * 2 ^ F.expBits := Nat.mul_le_mul_right _ (by omega)
        omega)
    _ = 2 ^ F.width := by rw [width_eq, Nat.pow_succ, Nat.pow_add]; ring

section pack
variable {F : Fmt} {neg : Bool} {E T : Nat} (hE : E < 2 ^ F.expBits) (hT : T < 2 ^ F.fracBits)
include hE hT

theorem fpFrac_fpPack : fpFrac F (fpPack F neg E T) = T := by
  rw [fpFrac, fpPack_toNat hE hT, Nat.mul_add_mod', Nat.mod_eq_of_lt hT]

theorem fpExp_fpPack : fpExp F (fpPack F neg E T) = E := by
  rw [fpExp, fpPack_toNat hE hT, Nat.mul_comm, Nat.mul_add_div (Nat.two_pow_pos _), Nat.div_eq_of_lt hT, Nat.add_zero,
    Nat.mul_comm, Nat.mul_add_mod, Nat.mod_eq_of_lt hE]

theorem msb_fpPack : (fpPack F neg E T).msb = neg := by
  have hw : 2 ^ (F.width - 1) = 2 ^ F.expBits * 2 ^ F.fracBits := by rw [width_eq, Nat.add_sub_cancel, Nat.pow_add]
  rw [BitVec.msb_eq_decide, fpPack_toNat hE hT, hw]
  cases neg with
  | false =>
    refine decide_eq_false (Nat.not_le.2 ?_)
    calc (false.toNat * 2 ^ F.expBits + E) * 2 ^ F.fracBits + T < (E + 1) * 2 ^ F.fracBits := by
          rw [Nat.add_mul E 1]; simp [hT]
      _ ≤ _ := Nat.mul_le_mul_right _ hE
  | true =>
    refine decide_eq_true (Nat.le_add_right_of_le (Nat.mul_le_mul_right _ ?_))
    simp

/-- R132: the value of a packed pattern that is not an infinity or a NaN. -/
theorem fpVal_fpPack (hmax : E ≠ fpExpMax F) : fpVal F (fpPack F neg E T) =
    if E = 0 then .fin neg T (F.emin - F.fracBits) else .fin neg (2 ^ F.fracBits + T) (E - F.emax - F.fracBits) := by
  simp only [fpVal, fpExp_fpPack hE hT, fpFrac_fpPack hE hT, msb_fpPack hE hT, if_neg hmax]

/-- The last bit of a packed pattern is that of its fraction. -/
theorem fpPack_lastBit : (fpPack F neg E T).getLsbD 0 = decide (T % 2 = 1) := by
  rw [← BitVec.testBit_toNat, Nat.testBit_zero, fpPack_toNat hE hT]
  obtain ⟨k, hk⟩ : 2 ∣ 2 ^ F.fracBits := dvd_pow_self 2 (fracBits_pos F).ne'
  rw [hk, Nat.mul_left_comm, Nat.mul_add_mod]

end pack

theorem fpVal_fpZero (F : Fmt) (neg : Bool) : fpVal F (fpZero F neg) = .fin neg 0 (F.emin - F.fracBits) :=
  fpVal_fpPack (Nat.two_pow_pos _) (Nat.two_pow_pos _) (by cases F <;> decide)

theorem fpVal_fpInf (F : Fmt) (neg : Bool) : fpVal F (fpInf F neg) = .inf neg := by
  have hE := fpExpMax_lt F
  have hT := Nat.two_pow_pos F.fracBits
  simp only [fpInf, fpVal, fpExp_fpPack hE hT, fpFrac_fpPack hE hT, msb_fpPack hE hT, if_true]

/-! ### The sign bit flipped (R146, R192) -/

/-- R130, R131: exponent and fraction are the bits below the sign. -/
theorem fpExp_congr {F : Fmt} {a b : BitVec F.width} (h : a.toNat % 2 ^ (F.width - 1) = b.toNat % 2 ^ (F.width - 1)) :
    fpExp F a = fpExp F b := by
  have hw : 2 ^ (F.width - 1) = 2 ^ F.fracBits * 2 ^ F.expBits := by
    rw [width_eq, Nat.add_sub_cancel, Nat.pow_add, Nat.mul_comm]
  rw [hw] at h
  rw [fpExp, fpExp, ← Nat.mod_mul_right_div_self, ← Nat.mod_mul_right_div_self, h]

theorem fpFrac_congr {F : Fmt} {a b : BitVec F.width} (h : a.toNat % 2 ^ (F.width - 1) = b.toNat % 2 ^ (F.width - 1)) :
    fpFrac F a = fpFrac F b := by
  have hd : 2 ^ F.fracBits ∣ 2 ^ (F.width - 1) := Nat.pow_dvd_pow 2 (by rw [width_eq]; omega)
  rw [fpFrac, fpFrac, ← Nat.mod_mod_of_dvd _ hd, h, Nat.mod_mod_of_dvd _ hd]

theorem fpNeg_low (F : Fmt) (b : BitVec F.width) :
    (fpNeg F b).toNat % 2 ^ (F.width - 1) = b.toNat % 2 ^ (F.width - 1) := by
  have h0 : (signMask F).toNat % 2 ^ (F.width - 1) = 0 := by cases F <;> decide
  rw [fpNeg, BitVec.toNat_xor, Nat.xor_mod_two_pow, h0, Nat.xor_zero]

theorem fpNeg_msb (F : Fmt) (b : BitVec F.width) : (fpNeg F b).msb = !b.msb := by
  have h1 : (signMask F).msb = true := by cases F <;> decide
  rw [fpNeg, BitVec.msb_xor, h1, Bool.xor_true]

/-- R132: what a finite value says of the fields. -/
theorem fpVal_eq_fin {F : Fmt} {b : BitVec F.width} {neg : Bool} {m : Nat} {e : Int} (h : fpVal F b = .fin neg m e) :
    b.msb = neg ∧ ((fpExp F b = 0 ∧ fpFrac F b = m ∧ F.emin - F.fracBits = e) ∨
      (fpExp F b ≠ 0 ∧ 2 ^ F.fracBits + fpFrac F b = m ∧ fpExp F b - F.emax - F.fracBits = e)) := by
  simp only [fpVal] at h
  split_ifs at h with h1 h2 h3 <;> cases h
  · exact ⟨rfl, .inl ⟨h3, rfl, rfl⟩⟩
  · exact ⟨rfl, .inr ⟨h3, rfl, rfl⟩⟩

theorem fpVal_fpNeg {F : Fmt} {b : BitVec F.width} {neg : Bool} {m : Nat} {e : Int} (h : fpVal F b = .fin neg m e) :
    fpVal F (fpNeg F b) = .fin (!neg) m e := by
  simp only [fpVal, fpExp_congr (fpNeg_low F b), fpFrac_congr (fpNeg_low F b), fpNeg_msb] at h ⊢
  split_ifs at h ⊢ <;> cases h <;> rfl

/-! ### The values of a format -/

/-- A finite value as an integer times a power of two. -/
theorem toRat_fin (neg : Bool) (m : Nat) (e : Int) :
    (((Val.fin neg m e).toRat : ℚ) : ℝ) = (signedMant neg m : ℝ) * 2 ^ e := by
  cases neg <;> simp [Val.toRat, signedMant]

theorem hasValue_iff {F : Fmt} {a : BitVec F.width} {v : ℝ} : HasValue F a v ↔
    ∃ neg m e, fpVal F a = .fin neg m e ∧ v = (signedMant neg m : ℝ) * 2 ^ e := by
  unfold HasValue
  cases hv : fpVal F a with
  | nan s => simp [Val.isFinite]
  | inf s => simp [Val.isFinite]
  | fin neg m e =>
    rw [toRat_fin]
    constructor
    · rintro ⟨-, h⟩; exact ⟨neg, m, e, rfl, h.symm⟩
    · rintro ⟨_, _, _, h, h'⟩; cases h; exact ⟨rfl, h'.symm⟩

theorem HasValue.unique {F : Fmt} {a : BitVec F.width} {v w : ℝ} (hv : HasValue F a v) (hw : HasValue F a w) : v = w :=
  hv.2.symm.trans hw.2

theorem hasValue_fpZero (F : Fmt) (neg : Bool) : HasValue F (fpZero F neg) 0 :=
  hasValue_iff.2 ⟨neg, 0, _, fpVal_fpZero F neg, by simp [signedMant]⟩

theorem HasValue.fpNeg {F : Fmt} {a : BitVec F.width} {v : ℝ} (h : HasValue F a v) : HasValue F (fpNeg F a) (-v) := by
  obtain ⟨neg, m, e, hv, rfl⟩ := hasValue_iff.1 h
  refine hasValue_iff.2 ⟨!neg, m, e, fpVal_fpNeg hv, ?_⟩
  cases neg <;> simp [signedMant]

/-- R130 to R132: a value of the format is an integer of `t + 1` bits and a sign, times a power of two that is not below
the least one. -/
theorem HasValue.exists_int {F : Fmt} {a : BitVec F.width} {v : ℝ} (h : HasValue F a v) :
    ∃ z X : ℤ, |z| < 2 ^ (F.fracBits + 1) ∧ F.emin - F.fracBits ≤ X ∧ v = z * 2 ^ X := by
  obtain ⟨neg, m, e, hv, rfl⟩ := hasValue_iff.1 h
  have hT : fpFrac F a < 2 ^ F.fracBits := Nat.mod_lt _ (Nat.two_pow_pos _)
  have habs : |signedMant neg m| = (m : ℤ) := by cases neg <;> simp [signedMant]
  have hmin := emin_eq F
  have hT' : (fpFrac F a : ℤ) < 2 ^ F.fracBits := by exact_mod_cast hT
  have hp : (2 : ℤ) ^ (F.fracBits + 1) = 2 ^ F.fracBits + 2 ^ F.fracBits := by rw [pow_succ]; ring
  refine ⟨signedMant neg m, e, ?_, ?_, rfl⟩ <;>
    obtain ⟨-, ⟨h0, rfl, rfl⟩ | ⟨h0, rfl, rfl⟩⟩ := fpVal_eq_fin hv
  · rw [habs, hp]; linarith [Nat.cast_nonneg (α := ℤ) (fpFrac F a)]
  · rw [habs, hp]; push_cast; linarith
  · exact le_rfl
  · omega

end Sys2Proof.Machine
end

section
/-! Rounding to nearest (R134, R137): what `fpEnc` encodes, what a finite result of `fpRound` is in the modes RNE and RMM,
and that no value of the format is nearer to the exact real. -/

namespace Sys2Proof.Machine

/-- The factor of a sign. -/
def signReal (neg : Bool) : ℝ := if neg then -1 else 1

theorem signedMant_cast (neg : Bool) (m : Nat) : ((signedMant neg m : ℤ) : ℝ) = signReal neg * m := by
  cases neg <;> simp [signedMant, signReal]

/-- The exponent of the last place of a real of the binade `e`, in the range of the format (R137). -/
def ulpExp (F : Fmt) (e : Int) : Int := max e F.emin - F.fracBits

/-! ### Encoding a real that the format represents (R134) -/

theorem fpEnc_pos {F : Fmt} {neg : Bool} {m : Mag} (hp : m.Proper) (h0 : 0 < magReal m) :
    fpEnc F neg m = if magReal m < 2 ^ F.emin then fpPack F neg 0 (magFloor (magScale m (F.fracBits - F.emin)))
      else fpPack F neg (magLog2 m + F.emax).toNat
        (magFloor (magScale m (F.fracBits - magLog2 m)) - 2 ^ F.fracBits) := by
  have hne : m ≠ .ratio 0 1 := by rintro rfl; simp [magReal] at h0
  simp only [fpEnc, if_neg hne, magLtPow2_iff hp]

theorem two_zpow_lt_iff {a b : Int} : (2 : ℝ) ^ a < 2 ^ b ↔ a < b := zpow_lt_zpow_iff_right₀ (by norm_num)

/-- A whole number of last places, counted. -/
theorem magFloor_scale_eq {m : Mag} {j : Nat} {a : Int} (hp : m.Proper) (h : magReal m = j * 2 ^ a) :
    magFloor (magScale m (-a)) = j := by
  rw [magFloor_eq (magScale_proper hp _), magReal_magScale, h, mul_assoc, ← zpow_add₀ (by norm_num), add_neg_cancel,
    zpow_zero, mul_one, Nat.floor_natCast]

theorem count_lt_iff {j n : Nat} {a : Int} : (j : ℝ) * 2 ^ a < 2 ^ (a + n) ↔ j < 2 ^ n := by
  rw [zpow_add₀ (by norm_num), mul_comm, mul_lt_mul_iff_right₀ (by positivity), zpow_natCast]
  exact_mod_cast Iff.rfl

/-- R132: the pattern of a subnormal number or of zero. -/
theorem fpPack_subnormal {F : Fmt} {neg : Bool} {j : Nat} (hj : j < 2 ^ F.fracBits) :
    HasValue F (fpPack F neg 0 j) (signReal neg * (j * 2 ^ (F.emin - F.fracBits))) ∧
      (fpPack F neg 0 j).getLsbD 0 = decide (j % 2 = 1) := by
  have hE := Nat.two_pow_pos F.expBits
  refine ⟨hasValue_iff.2 ⟨neg, j, F.emin - F.fracBits, ?_, ?_⟩, fpPack_lastBit hE hj⟩
  · rw [fpVal_fpPack hE hj (by cases F <;> decide), if_pos rfl]
  · rw [signedMant_cast]; ring

/-- R132: the pattern of a normal number: the leading one of its `t + 1` bits is not kept. -/
theorem fpPack_normal {F : Fmt} {neg : Bool} {j : Nat} {e : Int} (hmin : F.emin ≤ e) (hmax : e ≤ F.emax)
    (hlo : 2 ^ F.fracBits ≤ j) (hhi : j < 2 ^ (F.fracBits + 1)) :
    HasValue F (fpPack F neg (e + F.emax).toNat (j - 2 ^ F.fracBits)) (signReal neg * (j * 2 ^ (e - F.fracBits))) ∧
      (fpPack F neg (e + F.emax).toNat (j - 2 ^ F.fracBits)).getLsbD 0 = decide (j % 2 = 1) := by
  have hemin := emin_eq F
  have hmx := fpExpMax_eq F
  have hmx' := fpExpMax_lt F
  have hE : (e + F.emax).toNat < 2 ^ F.expBits := by omega
  have hT : j - 2 ^ F.fracBits < 2 ^ F.fracBits := by rw [pow_succ] at hhi; omega
  refine ⟨hasValue_iff.2 ⟨neg, 2 ^ F.fracBits + (j - 2 ^ F.fracBits), e - F.fracBits, ?_, ?_⟩, ?_⟩
  · rw [fpVal_fpPack hE hT (by omega), if_neg (by omega), Int.toNat_of_nonneg (by omega), add_sub_cancel_right]
  · rw [signedMant_cast, Nat.add_sub_cancel' hlo]; ring
  · rw [fpPack_lastBit hE hT]
    obtain ⟨k, hk⟩ : 2 ∣ 2 ^ F.fracBits := dvd_pow_self 2 (fracBits_pos F).ne'
    exact decide_eq_decide.2 (by omega)

/-- R134: a real that is a whole number `j` of last places of its binade is encoded exactly, and `j` gives the last bit. -/
theorem fpEnc_spec {F : Fmt} {neg : Bool} {m : Mag} {j : Nat} (hp : m.Proper) (h0 : 0 < magReal m)
    (hlt : magReal m < 2 ^ (F.emax + 1)) (hj : magReal m = j * 2 ^ ulpExp F (magLog2 m)) :
    HasValue F (fpEnc F neg m) (signReal neg * magReal m) ∧ (fpEnc F neg m).getLsbD 0 = decide (j % 2 = 1) := by
  obtain ⟨e1, e2⟩ := magLog2_isLog2 hp h0
  rw [fpEnc_pos hp h0]
  generalize magLog2 m = e at *
  split
  · next hsub =>
    have hee : e < F.emin := two_zpow_lt_iff.1 (e1.trans_lt hsub)
    rw [ulpExp, max_eq_right hee.le] at hj
    rw [← neg_sub, magFloor_scale_eq hp hj, hj]
    rw [hj, ← sub_add_cancel F.emin F.fracBits, add_sub_cancel_right, count_lt_iff] at hsub
    exact fpPack_subnormal hsub
  · next hnorm =>
    have hmin : F.emin < e + 1 := two_zpow_lt_iff.1 ((not_lt.1 hnorm).trans_lt e2)
    have hmax : e < F.emax + 1 := two_zpow_lt_iff.1 (e1.trans_lt hlt)
    rw [ulpExp, max_eq_left (by omega)] at hj
    rw [← neg_sub, magFloor_scale_eq hp hj, hj]
    refine fpPack_normal (by omega) (by omega) ?_ ?_
    · rw [hj, show e = e - F.fracBits + F.fracBits by ring, ← not_lt, add_sub_cancel_right, count_lt_iff] at e1
      exact not_lt.1 e1
    · rw [hj, show e + 1 = e - F.fracBits + (F.fracBits + 1 : ℕ) by push_cast; ring] at e2
      exact count_lt_iff.1 e2

end Sys2Proof.Machine
end

section
/-! Rounding to nearest, continued (R137): a finite result of `fpRound` in RNE and RMM is the nearest whole number of last
places, and no value of the format is nearer to the exact real. -/

namespace Sys2Proof.Machine

/-! ### The nearest integer -/

/-- An integer within one half of `u` is as near to `u` as any other, and nearer unless it is at one half. -/
theorem nearest_int {k n : ℤ} {u : ℝ} (hk : |k - u| ≤ 1 / 2) (hne : n ≠ k) :
    |k - u| ≤ |n - u| ∧ (|k - u| = |n - u| → |k - u| = 1 / 2) := by
  have h1 : (1 : ℝ) ≤ |(n : ℝ) - k| := by
    exact_mod_cast Int.one_le_abs (sub_ne_zero.2 hne)
  have h2 : |(n : ℝ) - k| ≤ |n - u| + |k - u| := by
    rw [abs_sub_comm (k : ℝ) u]; exact abs_sub_le _ _ _
  exact ⟨by linarith, fun e => by linarith⟩

/-! ### The nearest value of a format -/

/-- The integer `k` within one half of `r`, counted in last places of the binade of `r`: any other value `z × 2^X` of the
format is farther from `r`, or equally far when `k` is at one half. Below the last place of `r` lie only values below the
binade of `r`, which are farther than its lower end. -/
theorem nearest_in_format {F : Fmt} {r u : ℝ} {e k z X : ℤ} (he : IsLog2 r e) (hu : r = u * 2 ^ ulpExp F e)
    (hk : |k - u| ≤ 1 / 2) (hz : |z| < 2 ^ (F.fracBits + 1)) (hX : F.emin - F.fracBits ≤ X) :
    (z : ℝ) * 2 ^ X = k * 2 ^ ulpExp F e ∨ |k * 2 ^ ulpExp F e - r| < |(z : ℝ) * 2 ^ X - r| ∨
      (|k * 2 ^ ulpExp F e - r| = |(z : ℝ) * 2 ^ X - r| ∧ |k - u| = 1 / 2) := by
  have hg : (0 : ℝ) < 2 ^ ulpExp F e := by positivity
  have hdist (n : ℝ) : |n * 2 ^ ulpExp F e - r| = |n - u| * 2 ^ ulpExp F e := by
    rw [hu, ← sub_mul, abs_mul, abs_of_pos hg]
  obtain hle | hlt := le_or_gt (ulpExp F e) X
  · obtain ⟨n, hn⟩ : ∃ n : ℤ, (z : ℝ) * 2 ^ X = n * 2 ^ ulpExp F e := by
      refine ⟨z * 2 ^ (X - ulpExp F e).toNat, ?_⟩
      push_cast
      rw [zpow_toNat (by omega), mul_assoc, ← zpow_add₀ (by norm_num), sub_add_cancel]
    rw [hn, hdist, hdist]
    by_cases hne : n = k
    · exact .inl (by rw [hne])
    · obtain ⟨h1, h2⟩ := nearest_int hk hne
      obtain hl | hE := h1.lt_or_eq
      · exact .inr (.inl (mul_lt_mul_of_pos_right hl hg))
      · exact .inr (.inr ⟨by rw [hE], h2 hE⟩)
  · have hmax : F.emin < e := by unfold ulpExp at hlt; omega
    have hul : ulpExp F e = e - F.fracBits := by rw [ulpExp, max_eq_left hmax.le]
    have hw : (z : ℝ) * 2 ^ X < 2 ^ e := by
      have hz' : (z : ℝ) < 2 ^ (F.fracBits + 1) := by exact_mod_cast (abs_lt.1 hz).2
      calc (z : ℝ) * 2 ^ X < 2 ^ (F.fracBits + 1) * 2 ^ X := by gcongr
        _ = 2 ^ (F.fracBits + 1 + X) := by rw [zpow_add₀ (by norm_num)]; norm_cast
        _ ≤ 2 ^ e := zpow_le_zpow_right₀ (by norm_num) (by omega)
    have hlow : ((2 ^ F.fracBits : ℤ) : ℝ) * 2 ^ ulpExp F e = 2 ^ e := by
      rw [hul, zpow_sub₀ (by norm_num)]; push_cast; rw [zpow_natCast]; field_simp
    have hkl : |(k : ℝ) * 2 ^ ulpExp F e - r| ≤ |2 ^ e - r| := by
      rw [← hlow, hdist, hdist]
      refine mul_le_mul_of_nonneg_right ?_ hg.le
      by_cases hne : (2 ^ F.fracBits : ℤ) = k
      · rw [hne]
      · exact (nearest_int hk hne).1
    refine .inr (.inl (hkl.trans_lt ?_))
    rw [abs_of_nonpos (sub_nonpos.2 he.1), abs_of_neg (by linarith [he.1])]
    linarith

/-! ### A rounded result in last places -/

/-- The result of rounding, counted in last places (R137). -/
def lastPlaces (F : Fmt) (mode : RoundingMode) (neg : Bool) (m : Mag) : Nat :=
  rint mode neg (magScale m (F.fracBits - max (magLog2 m) F.emin))

theorem fpRound_fst (F : Fmt) (mode : RoundingMode) (neg : Bool) (m : Mag) : (fpRound F mode neg m).1 =
    if magLtPow2 (magOf (lastPlaces F mode neg m) (ulpExp F (magLog2 m))) (F.emax + 1) = true then
      if lastPlaces F mode neg m = 0 then fpZero F neg
      else fpEnc F neg (magOf (lastPlaces F mode neg m) (ulpExp F (magLog2 m)))
    else fpOverflow F mode neg := by
  unfold fpRound
  by_cases h : magLtPow2 (magOf (lastPlaces F mode neg m) (ulpExp F (magLog2 m))) (F.emax + 1) = true
  · rw [if_pos h, if_neg (by rw [Bool.not_eq_true, Bool.not_eq_false']; exact h)]; rfl
  · rw [if_neg h, if_pos (by rw [Bool.not_eq_true']; exact (Bool.not_eq_true _).mp h)]

/-- The binade `e` and the one above, counted in last places. -/
theorem two_zpow_eq_count (F : Fmt) (e : ℤ) (n : ℕ) :
    (2 : ℝ) ^ (max e F.emin - F.fracBits + n) = (2 ^ n : ℕ) * 2 ^ ulpExp F e := by
  rw [add_comm, zpow_add₀ (by norm_num), zpow_natCast]; push_cast; rfl

/-- Rounded to nearest, a real has at most `t + 1` bits or is the power of two above; a normal one has `t + 1` bits. -/
theorem count_bounds {F : Fmt} {r u : ℝ} {e : ℤ} {k : ℕ} (he : IsLog2 r e) (hu : r = u * 2 ^ ulpExp F e)
    (hk : |(k : ℝ) - u| ≤ 1 / 2) : k ≤ 2 ^ (F.fracBits + 1) ∧ (F.emin < e → 2 ^ F.fracBits ≤ k) := by
  have hg : (0 : ℝ) < 2 ^ ulpExp F e := by positivity
  obtain ⟨hk1, hk2⟩ := abs_le.1 hk
  constructor
  · have hr : r < (2 ^ (F.fracBits + 1) : ℕ) * 2 ^ ulpExp F e := by
      rw [← two_zpow_eq_count]
      exact he.2.trans_le (zpow_le_zpow_right₀ (by norm_num) (by push_cast; omega))
    have hu2 : u < (2 ^ (F.fracBits + 1) : ℕ) := lt_of_mul_lt_mul_right (hu ▸ hr) hg.le
    have : (k : ℝ) < ((2 ^ (F.fracBits + 1) + 1 : ℕ) : ℝ) := by push_cast at hu2 ⊢; linarith
    exact Nat.lt_succ_iff.1 (Nat.cast_lt.1 this)
  · intro hmin
    have hr : (2 ^ F.fracBits : ℕ) * 2 ^ ulpExp F e ≤ r := by
      rw [← two_zpow_eq_count]
      exact le_trans (zpow_le_zpow_right₀ (by norm_num) (by omega)) he.1
    have hu2 : ((2 ^ F.fracBits : ℕ) : ℝ) ≤ u := le_of_mul_le_mul_right (hu ▸ hr) hg
    have : ((2 ^ F.fracBits : ℕ) : ℝ) < ((k + 1 : ℕ) : ℝ) := by push_cast at hu2 ⊢; linarith
    exact Nat.lt_succ_iff.1 (Nat.cast_lt.1 this)

theorem isLog2_two_zpow (e : ℤ) : IsLog2 (2 ^ e) e := ⟨le_rfl, two_zpow_lt_iff.2 (lt_add_one e)⟩

/-- Rounding to nearest stays in the binade, or goes to the power of two above it, where the last place is the next one. -/
theorem exists_count_of_rounded {F : Fmt} {r u : ℝ} {e e' : ℤ} {k : ℕ} (he : IsLog2 r e)
    (hu : r = u * 2 ^ ulpExp F e) (hk : |(k : ℝ) - u| ≤ 1 / 2) (he' : IsLog2 (k * 2 ^ ulpExp F e) e') :
    ∃ j : ℕ, (k : ℝ) * 2 ^ ulpExp F e = j * 2 ^ ulpExp F e' ∧ j % 2 = k % 2 := by
  have hg : (0 : ℝ) < 2 ^ ulpExp F e := by positivity
  obtain ⟨hhi, hlo⟩ := count_bounds he hu hk
  obtain hlt | rfl := hhi.lt_or_eq
  · refine ⟨k, ?_, rfl⟩
    have h1 : e' < max e F.emin + 1 := by
      refine two_zpow_lt_iff.1 (he'.1.trans_lt ?_)
      rw [show max e F.emin + 1 = max e F.emin - F.fracBits + (F.fracBits + 1 : ℕ) by push_cast; ring,
        two_zpow_eq_count]
      exact mul_lt_mul_of_pos_right (Nat.cast_lt.2 hlt) hg
    have h2 : F.emin < e → e < e' + 1 := by
      intro hmin
      have h2e : (2 : ℝ) ^ e = (2 ^ F.fracBits : ℕ) * 2 ^ ulpExp F e := by
        rw [← two_zpow_eq_count, sub_add_cancel, max_eq_left hmin.le]
      refine two_zpow_lt_iff.1 (lt_of_le_of_lt ?_ he'.2)
      rw [h2e]
      exact mul_le_mul_of_nonneg_right (Nat.cast_le.2 (hlo hmin)) hg.le
    rw [show ulpExp F e' = ulpExp F e by unfold ulpExp; omega]
  · have htop : ((2 ^ (F.fracBits + 1) : ℕ) : ℝ) * 2 ^ ulpExp F e = 2 ^ (max e F.emin + 1) := by
      rw [← two_zpow_eq_count]; congr 1; push_cast; ring
    rw [htop] at he'
    have hnext : ulpExp F e' = ulpExp F e + 1 := by
      rw [he'.unique (isLog2_two_zpow _)]; unfold ulpExp; omega
    refine ⟨2 ^ F.fracBits, ?_, by cases F <;> rfl⟩
    rw [hnext, zpow_add_one₀ (by norm_num), pow_succ]; push_cast; ring

end Sys2Proof.Machine
end

section
/-! The modes to nearest, for every operation (R32, R137, R146, R147): each operation of `ExactResult` either gives its exact
result or rounds it once with `fpRound`, and a finite result of `fpRound` to nearest is a nearest value of the format. -/

namespace Sys2Proof.Machine

/-! ### A finite result of `fpRound` to nearest -/

/-- The exact real in last places of its binade, as `fpRound` rounds it. -/
noncomputable def scaledReal (F : Fmt) (m : Mag) : ℝ := magReal m * 2 ^ (-ulpExp F (magLog2 m))

theorem magReal_eq_scaled (F : Fmt) (m : Mag) : magReal m = scaledReal F m * 2 ^ ulpExp F (magLog2 m) := by
  rw [scaledReal, mul_assoc, ← zpow_add₀ (by norm_num), neg_add_cancel, zpow_zero, mul_one]

theorem magReal_scale_ulp (F : Fmt) (m : Mag) :
    magReal (magScale m (F.fracBits - max (magLog2 m) F.emin)) = scaledReal F m := by
  rw [magReal_magScale, scaledReal, ulpExp, neg_sub]

/-- What one of the two modes to nearest makes of a magnitude: within one half, and what it does at one half. -/
theorem lastPlaces_rne {F : Fmt} {m : Mag} (hp : m.Proper) (neg : Bool) :
    |(lastPlaces F .rne neg m : ℝ) - scaledReal F m| ≤ 1 / 2 ∧
      (|(lastPlaces F .rne neg m : ℝ) - scaledReal F m| = 1 / 2 → lastPlaces F .rne neg m % 2 = 0) := by
  rw [← magReal_scale_ulp]; exact rint_rne (magScale_proper hp _) neg

theorem lastPlaces_rmm {F : Fmt} {m : Mag} (hp : m.Proper) (neg : Bool) :
    |(lastPlaces F .rmm neg m : ℝ) - scaledReal F m| ≤ 1 / 2 ∧
      (|(lastPlaces F .rmm neg m : ℝ) - scaledReal F m| = 1 / 2 → scaledReal F m < lastPlaces F .rmm neg m) := by
  rw [← magReal_scale_ulp]; exact rint_rmm (magScale_proper hp _) neg

/-- R138: an overflow in a mode to nearest is an infinity. -/
theorem fpOverflow_nearest {F : Fmt} {mode : RoundingMode} (hm : mode = .rne ∨ mode = .rmm) (neg : Bool) :
    fpOverflow F mode neg = fpInf F neg := by obtain rfl | rfl := hm <;> rfl

theorem not_hasValue_fpInf (F : Fmt) (neg : Bool) (v : ℝ) : ¬ HasValue F (fpInf F neg) v := by
  rw [HasValue, fpVal_fpInf]; exact fun h => Bool.false_ne_true h.1

section nearest
variable {F : Fmt} {mode : RoundingMode} {neg : Bool} {m : Mag} (hp : m.Proper) (h0 : 0 < magReal m)
  (hm : mode = .rne ∨ mode = .rmm) (hk : |(lastPlaces F mode neg m : ℝ) - scaledReal F m| ≤ 1 / 2)
include hp h0 hm hk

/-- R134, R137: a finite result to nearest is the count of last places that `rint` picks, with its last bit. -/
theorem fpRound_nearest_value {v : ℝ} (hv : HasValue F (fpRound F mode neg m).1 v) :
    v = signReal neg * (lastPlaces F mode neg m * 2 ^ ulpExp F (magLog2 m)) ∧
      (fpRound F mode neg m).1.getLsbD 0 = decide (lastPlaces F mode neg m % 2 = 1) := by
  have hlog := magLog2_isLog2 hp h0
  rw [fpRound_fst] at hv ⊢
  split at hv
  · next hlt =>
    rw [if_pos hlt]
    split at hv
    · next hz =>
      rw [if_pos hz, hz]
      obtain ⟨hval, hbit⟩ := fpPack_subnormal (F := F) (neg := neg) (Nat.two_pow_pos F.fracBits)
      refine ⟨?_, hbit⟩
      rw [hv.unique (hasValue_fpZero F neg)]; simp
    · next hz =>
      rw [if_neg hz]
      have hB := magOf_proper (lastPlaces F mode neg m) (ulpExp F (magLog2 m))
      have hBr := magReal_magOf (lastPlaces F mode neg m) (ulpExp F (magLog2 m))
      have hB0 : 0 < magReal (magOf (lastPlaces F mode neg m) (ulpExp F (magLog2 m))) := by
        have : (0 : ℝ) < lastPlaces F mode neg m := Nat.cast_pos.2 (Nat.pos_of_ne_zero hz)
        rw [hBr]; positivity
      obtain ⟨j, hj, hpar⟩ := exists_count_of_rounded hlog (magReal_eq_scaled F m) hk
        (hBr ▸ magLog2_isLog2 hB hB0)
      obtain ⟨hval, hbit⟩ := fpEnc_spec (neg := neg) hB hB0 ((magLtPow2_iff hB _).1 hlt) (hBr.trans hj)
      rw [hBr] at hval
      exact ⟨hv.unique hval, by rw [hbit, hpar]⟩
  · rw [fpOverflow_nearest hm] at hv
    exact absurd hv (not_hasValue_fpInf F neg v)

/-- R137: any other value of the format is farther from the exact real, or equally far when that is halfway. -/
theorem fpRound_nearest {v : ℝ} (hv : HasValue F (fpRound F mode neg m).1 v) {x : BitVec F.width} {w : ℝ}
    (hw : HasValue F x w) : w = v ∨ |v - signReal neg * magReal m| < |w - signReal neg * magReal m| ∨
      (|v - signReal neg * magReal m| = |w - signReal neg * magReal m| ∧
        |(lastPlaces F mode neg m : ℝ) - scaledReal F m| = 1 / 2) := by
  have hlog := magLog2_isLog2 hp h0
  have hss : signReal neg * signReal neg = 1 := by cases neg <;> norm_num [signReal]
  have hsa : |signReal neg| = 1 := by cases neg <;> norm_num [signReal]
  have hflip (y : ℝ) : |y - signReal neg * magReal m| = |signReal neg * y - magReal m| := by
    rw [← one_mul |y - _|, ← hsa, ← abs_mul, mul_sub, ← mul_assoc, hss, one_mul]
  obtain ⟨z, X, hz, hX, hzw⟩ : ∃ z X : ℤ, |z| < 2 ^ (F.fracBits + 1) ∧ F.emin - F.fracBits ≤ X ∧
      signReal neg * w = z * 2 ^ X := by
    cases neg with
    | false => rw [signReal]; simpa using hw.exists_int
    | true => rw [signReal]; simpa using hw.fpNeg.exists_int
  obtain ⟨rfl, -⟩ := fpRound_nearest_value hp h0 hm hk hv
  have hsv : signReal neg * (signReal neg * (lastPlaces F mode neg m * 2 ^ ulpExp F (magLog2 m))) =
      ((lastPlaces F mode neg m : ℤ) : ℝ) * 2 ^ ulpExp F (magLog2 m) := by
    rw [← mul_assoc, hss, one_mul, Int.cast_natCast]
  rw [hflip, hflip, hsv, hzw]
  refine (nearest_in_format hlog (magReal_eq_scaled F m) (by exact_mod_cast hk) hz hX).imp (fun h => ?_) (Or.imp_right ?_)
  · rw [← hzw, ← hsv] at h
    have h' := congrArg (signReal neg * ·) h
    simpa only [← mul_assoc, hss, one_mul] using h'
  · exact fun ⟨h1, h2⟩ => ⟨h1, by exact_mod_cast h2⟩

end nearest

/-- R32, R137: ties to even. -/
theorem fpRound_rne_nearest {F : Fmt} {neg : Bool} {m : Mag} (hp : m.Proper) (h0 : 0 < magReal m) {v : ℝ}
    (hv : HasValue F (fpRound F .rne neg m).1 v) {x : BitVec F.width} {w : ℝ} (hw : HasValue F x w) :
    |v - signReal neg * magReal m| ≤ |w - signReal neg * magReal m| ∧
      (w ≠ v → |v - signReal neg * magReal m| = |w - signReal neg * magReal m| →
        (fpRound F .rne neg m).1.getLsbD 0 = false) := by
  obtain ⟨hk, htie⟩ := lastPlaces_rne (F := F) hp neg
  obtain ⟨-, hbit⟩ := fpRound_nearest_value hp h0 (.inl rfl) hk hv
  obtain rfl | hlt | ⟨heq, hhalf⟩ := fpRound_nearest hp h0 (.inl rfl) hk hv hw
  · exact ⟨le_rfl, fun h => absurd rfl h⟩
  · exact ⟨hlt.le, fun _ h => absurd h hlt.ne⟩
  · refine ⟨heq.le, fun _ _ => ?_⟩
    rw [hbit, htie hhalf]; rfl

/-- R32, R137: ties to the larger magnitude. -/
theorem fpRound_rmm_nearest {F : Fmt} {neg : Bool} {m : Mag} (hp : m.Proper) (h0 : 0 < magReal m) {v : ℝ}
    (hv : HasValue F (fpRound F .rmm neg m).1 v) {x : BitVec F.width} {w : ℝ} (hw : HasValue F x w) :
    |v - signReal neg * magReal m| ≤ |w - signReal neg * magReal m| ∧
      (w ≠ v → |v - signReal neg * magReal m| = |w - signReal neg * magReal m| → |w| < |v|) := by
  obtain ⟨hk, htie⟩ := lastPlaces_rmm (F := F) hp neg
  obtain ⟨hval, -⟩ := fpRound_nearest_value hp h0 (.inr rfl) hk hv
  obtain rfl | hlt | ⟨heq, hhalf⟩ := fpRound_nearest hp h0 (.inr rfl) hk hv hw
  · exact ⟨le_rfl, fun h => absurd rfl h⟩
  · exact ⟨hlt.le, fun _ h => absurd h hlt.ne⟩
  · refine ⟨heq.le, fun hne _ => ?_⟩
    have hq : 0 < magReal m ∧ magReal m < lastPlaces F .rmm neg m * 2 ^ ulpExp F (magLog2 m) := by
      refine ⟨h0, ?_⟩
      rw [magReal_eq_scaled F m]
      exact mul_lt_mul_of_pos_right (htie hhalf) (by positivity)
    generalize magReal m = r at *
    generalize (lastPlaces F .rmm neg m : ℝ) * 2 ^ ulpExp F (magLog2 m) = K at *
    have hw' : w = signReal neg * (2 * r - K) := by
      obtain h | h := abs_eq_abs.1 heq
      · exact absurd (by linarith) hne
      · rw [hval] at h; linarith
    have hsa : |signReal neg| = 1 := by cases neg <;> norm_num [signReal]
    rw [hw', hval, abs_mul, abs_mul, hsa, one_mul, one_mul, abs_of_pos (hq.1.trans hq.2), abs_lt]
    constructor <;> linarith [hq.1, hq.2]

/-! ### Every operation rounds its exact result once (R137, R146, R147) -/

/-- The results of an operation in all modes: the exact result `q`, or `q` rounded once. -/
def RoundsOnce (F : Fmt) (op : RoundingMode → BitVec F.width × FFlags) (q : ℝ) : Prop :=
  (∀ mode, HasValue F (op mode).1 q) ∨
    ∃ neg m, m.Proper ∧ 0 < magReal m ∧ q = signReal neg * magReal m ∧ ∀ mode, op mode = fpRound F mode neg m

theorem roundsOnce_zero {F : Fmt} {op : RoundingMode → BitVec F.width × FFlags} {q : ℝ} (hq : q = 0)
    (h : ∀ mode, ∃ neg fl, op mode = (fpZero F neg, fl)) : RoundsOnce F op q := by
  refine .inl fun mode => ?_
  obtain ⟨neg, fl, h⟩ := h mode
  rw [h, hq]; exact hasValue_fpZero F neg

theorem roundsOnce_fpRound {F : Fmt} {neg : Bool} {m : Mag} {q : ℝ} (hp : m.Proper) (h0 : 0 < magReal m)
    (hq : q = signReal neg * magReal m) : RoundsOnce F (fun mode => fpRound F mode neg m) q :=
  .inr ⟨neg, m, hp, h0, hq, fun _ => rfl⟩

theorem signReal_mul_signReal (a b : Bool) : signReal a * signReal b = signReal (a ^^ b) := by
  cases a <;> cases b <;> norm_num [signReal]

theorem roundsOnce_magOf {F : Fmt} {neg : Bool} {n : Nat} {e : Int} {q : ℝ} (hn : n ≠ 0)
    (hq : q = signReal neg * (n * 2 ^ e)) : RoundsOnce F (fun mode => fpRound F mode neg (magOf n e)) q := by
  have h0 : (0 : ℝ) < n * 2 ^ e := mul_pos (Nat.cast_pos.2 (Nat.pos_of_ne_zero hn)) (by positivity)
  exact roundsOnce_fpRound (magOf_proper n e) (by rwa [magReal_magOf]) (by rw [hq, magReal_magOf])

theorem roundsOnce_fpRoundInt {F : Fmt} {z e : Int} (hz : z ≠ 0) :
    RoundsOnce F (fun mode => fpRoundInt F mode z e) (z * 2 ^ e) := by
  refine roundsOnce_magOf (Int.natAbs_ne_zero.2 hz) ?_
  have : (z : ℝ) = signReal (decide (z < 0)) * z.natAbs := by
    rw [Nat.cast_natAbs, signReal]
    by_cases h : z < 0
    · simp [h, abs_of_neg h]
    · simp [h, abs_of_nonneg (not_lt.1 h)]
  rw [← mul_assoc, ← this]

theorem alignedSum_cast (za ea zb eb : Int) :
    ((alignedSum za ea zb eb : ℤ) : ℝ) * 2 ^ min ea eb = za * 2 ^ ea + zb * 2 ^ eb := by
  have h (z e : ℤ) (he : min ea eb ≤ e) : (z : ℝ) * 2 ^ (e - min ea eb).toNat * 2 ^ min ea eb = z * 2 ^ e := by
    rw [zpow_toNat (by omega), mul_assoc, ← zpow_add₀ (by norm_num), sub_add_cancel]
  rw [alignedSum]; push_cast
  rw [add_mul, h _ _ (min_le_left _ _), h _ _ (min_le_right _ _)]

/-- R146: the sum of two finite values. -/
theorem roundsOnce_valAdd (F : Fmt) (sa : Bool) (ma : Nat) (ea : Int) (sb : Bool) (mb : Nat) (eb : Int) :
    RoundsOnce F (fun mode => valAdd F mode (.fin sa ma ea) (.fin sb mb eb))
      (signedMant sa ma * 2 ^ ea + signedMant sb mb * 2 ^ eb) := by
  rw [← alignedSum_cast]
  by_cases hz : alignedSum (signedMant sa ma) ea (signedMant sb mb) eb = 0
  · refine roundsOnce_zero (by rw [hz]; simp) fun mode => ?_
    simp only [valAdd, if_pos hz]
    split
    · exact ⟨_, _, rfl⟩
    · exact ⟨_, _, rfl⟩
  · simp only [valAdd, if_neg hz]; exact roundsOnce_fpRoundInt hz

section operations
variable {F : Fmt} {a b c : BitVec F.width} {u v w : ℝ}

theorem roundsOnce_fpAdd (ha : HasValue F a u) (hb : HasValue F b v) :
    RoundsOnce F (fun mode => fpAdd F mode a b) (u + v) := by
  obtain ⟨sa, ma, ea, hva, rfl⟩ := hasValue_iff.1 ha
  obtain ⟨sb, mb, eb, hvb, rfl⟩ := hasValue_iff.1 hb
  simp only [fpAdd, hva, hvb]
  exact roundsOnce_valAdd F sa ma ea sb mb eb

theorem roundsOnce_fpSub (ha : HasValue F a u) (hb : HasValue F b v) :
    RoundsOnce F (fun mode => fpSub F mode a b) (u - v) := by
  rw [sub_eq_add_neg]; exact roundsOnce_fpAdd ha hb.fpNeg

theorem roundsOnce_fpMul (ha : HasValue F a u) (hb : HasValue F b v) :
    RoundsOnce F (fun mode => fpMul F mode a b) (u * v) := by
  obtain ⟨sa, ma, ea, hva, rfl⟩ := hasValue_iff.1 ha
  obtain ⟨sb, mb, eb, hvb, rfl⟩ := hasValue_iff.1 hb
  simp only [fpMul, hva, hvb, signedMant_cast]
  by_cases h0 : ma = 0 ∨ mb = 0
  · refine roundsOnce_zero (by obtain rfl | rfl := h0 <;> simp) fun mode => ⟨_, _, if_pos h0⟩
  · simp only [if_neg h0]
    refine roundsOnce_magOf (mul_ne_zero (fun h => h0 (.inl h)) fun h => h0 (.inr h)) ?_
    rw [← signReal_mul_signReal, zpow_add₀ (by norm_num)]; push_cast; ring

theorem roundsOnce_fpDiv (ha : HasValue F a u) (hb : HasValue F b v) (hv : v ≠ 0) :
    RoundsOnce F (fun mode => fpDiv F mode a b) (u / v) := by
  obtain ⟨sa, ma, ea, hva, rfl⟩ := hasValue_iff.1 ha
  obtain ⟨sb, mb, eb, hvb, rfl⟩ := hasValue_iff.1 hb
  have hmb : mb ≠ 0 := by rintro rfl; simp [signedMant] at hv
  simp only [fpDiv, hva, hvb, signedMant_cast, if_neg hmb]
  by_cases h0 : ma = 0
  · exact roundsOnce_zero (by simp [h0]) fun mode => ⟨_, _, if_pos h0⟩
  · simp only [if_neg h0]
    have hq : magReal (magScale (.ratio ma mb) (ea - eb)) = ma / mb * 2 ^ (ea - eb) := magReal_magScale _ _
    have hma' : (0 : ℝ) < ma := Nat.cast_pos.2 (Nat.pos_of_ne_zero h0)
    have hmb' : (0 : ℝ) < mb := Nat.cast_pos.2 (Nat.pos_of_ne_zero hmb)
    refine roundsOnce_fpRound (magScale_proper (m := .ratio ma mb) (Nat.pos_of_ne_zero hmb) _)
      (by rw [hq]; positivity) ?_
    have hs : signReal sb ≠ 0 := by cases sb <;> norm_num [signReal]
    have hss : signReal sb * signReal sb = 1 := by cases sb <;> norm_num [signReal]
    rw [hq, ← signReal_mul_signReal, zpow_sub₀ (by norm_num), div_eq_iff (by positivity)]
    field_simp
    linear_combination (-signReal sa) * hss

theorem magReal_magSqrt (n : Nat) (e : Int) : magReal (magSqrt n e) = √(n * 2 ^ e) := by
  unfold magSqrt
  split
  · next h => simp only [magReal]; push_cast; rw [zpow_toNat h, div_one]
  · next h => simp only [magReal]; push_cast; rw [zpow_neg_toNat h, div_inv_eq_mul]

theorem magSqrt_proper (n : Nat) (e : Int) : (magSqrt n e).Proper := by
  unfold magSqrt; split <;> simp only [Mag.Proper] <;> positivity

theorem roundsOnce_fpSqrt (ha : HasValue F a u) (hu : 0 ≤ u) :
    RoundsOnce F (fun mode => fpSqrt F mode a) (√u) := by
  obtain ⟨sa, ma, ea, hva, rfl⟩ := hasValue_iff.1 ha
  simp only [fpSqrt, hva]
  by_cases h0 : ma = 0
  · exact roundsOnce_zero (by subst h0; cases sa <;> simp [signedMant]) fun mode => ⟨_, _, if_pos h0⟩
  · have hma : (0 : ℝ) < ma := Nat.cast_pos.2 (Nat.pos_of_ne_zero h0)
    have h2 : (0 : ℝ) < 2 ^ ea := by positivity
    have hsa : sa = false := by
      by_contra h
      rw [Bool.not_eq_false] at h
      rw [h, signedMant_cast] at hu
      have : 0 < (ma : ℝ) * 2 ^ ea := by positivity
      simp only [signReal, if_true] at hu; linarith
    subst hsa
    simp only [if_neg h0, Bool.false_eq_true, if_false]
    have hu' : ((signedMant false ma : ℤ) : ℝ) * 2 ^ ea = ma * 2 ^ ea := by simp [signedMant]
    rw [hu', ← magReal_magSqrt]
    refine roundsOnce_fpRound (magSqrt_proper _ _) ?_ (by simp [signReal])
    rw [magReal_magSqrt]; positivity

/-- R147: the product is exact, and the sum is rounded. -/
theorem roundsOnce_fpFma (ha : HasValue F a u) (hb : HasValue F b v) (hc : HasValue F c w) :
    RoundsOnce F (fun mode => fpFma F mode a b c) (u * v + w) := by
  obtain ⟨sa, ma, ea, hva, rfl⟩ := hasValue_iff.1 ha
  obtain ⟨sb, mb, eb, hvb, rfl⟩ := hasValue_iff.1 hb
  obtain ⟨sc, mc, ec, hvc, rfl⟩ := hasValue_iff.1 hc
  have hprod : ((signedMant sa ma : ℤ) : ℝ) * 2 ^ ea * ((signedMant sb mb : ℤ) * 2 ^ eb) =
      (signedMant (sa ^^ sb) (ma * mb) : ℤ) * 2 ^ (ea + eb) := by
    rw [signedMant_cast, signedMant_cast, signedMant_cast, ← signReal_mul_signReal, zpow_add₀ (by norm_num)]
    push_cast; ring
  rw [hprod]
  simp only [fpFma, hva, hvb, hvc, Val.isNan, infTimesZero, valMul, Bool.or_self, Bool.false_eq_true, if_false]
  exact roundsOnce_valAdd F _ _ _ sc mc ec

theorem roundsOnce_fpFromInt (F : Fmt) (n : ℤ) : RoundsOnce F (fun mode => fpFromInt F mode n) n := by
  unfold fpFromInt
  by_cases h0 : n = 0
  · exact roundsOnce_zero (by simp [h0]) fun mode => ⟨_, _, if_pos h0⟩
  · simp only [if_neg h0]
    simpa using roundsOnce_fpRoundInt (F := F) (e := 0) h0

theorem roundsOnce_fpNarrow {a : BitVec 64} (ha : HasValue .double a u) :
    RoundsOnce .single (fun mode => fpNarrow mode a) u := by
  obtain ⟨sa, ma, ea, hva, rfl⟩ := hasValue_iff.1 ha
  simp only [fpNarrow, hva, signedMant_cast]
  by_cases h0 : ma = 0
  · exact roundsOnce_zero (by simp [h0]) fun mode => ⟨_, _, if_pos h0⟩
  · simp only [if_neg h0]
    exact roundsOnce_magOf h0 (by ring)

/-- R131: the numbers of a finite single-precision value. -/
theorem single_fin_bounds {a : BitVec 32} {neg : Bool} {n : Nat} {e : Int} (h : fpVal .single a = .fin neg n e) :
    n < 2 ^ 24 ∧ -149 ≤ e ∧ e ≤ 105 := by
  have hT : fpFrac .single a < 2 ^ 23 := Nat.mod_lt _ (by norm_num)
  have hE : fpExp .single a < 2 ^ 8 := Nat.mod_lt _ (by norm_num)
  obtain ⟨-, ⟨-, h1, h2⟩ | ⟨h0, h1, h2⟩⟩ := fpVal_eq_fin h <;> simp only [Fmt.fracBits, Fmt.emin, Fmt.emax] at h1 h2 <;>
    omega

/-- R246: every single-precision number is normal in double precision and has fewer bits. -/
theorem fpWiden_exact {a : BitVec 32} (ha : HasValue .single a u) : HasValue .double (fpWiden a).1 u := by
  obtain ⟨sa, ma, ea, hva, rfl⟩ := hasValue_iff.1 ha
  obtain ⟨hma, hlo, hhi⟩ := single_fin_bounds hva
  simp only [fpWiden, hva, signedMant_cast]
  by_cases h0 : ma = 0
  · rw [if_pos h0, h0]; simpa using hasValue_fpZero .double sa
  rw [if_neg h0]
  have hp := magOf_proper ma ea
  have hr := magReal_magOf ma ea
  have h1 : (1 : ℝ) ≤ ma := Nat.one_le_cast.2 (Nat.pos_of_ne_zero h0)
  have h2 : (0 : ℝ) < 2 ^ ea := by positivity
  have hpos : 0 < magReal (magOf ma ea) := by rw [hr]; positivity
  have htop : magReal (magOf ma ea) < 2 ^ (ea + (24 : ℕ)) := by rw [hr]; exact count_lt_iff.2 hma
  have hbot : 2 ^ ea ≤ magReal (magOf ma ea) := by rw [hr]; exact le_mul_of_one_le_left h2.le h1
  have hlog := magLog2_isLog2 hp hpos
  have he1 : magLog2 (magOf ma ea) < ea + (24 : ℕ) := two_zpow_lt_iff.1 (hlog.1.trans_lt htop)
  have he2 : ea < magLog2 (magOf ma ea) + 1 := two_zpow_lt_iff.1 (hbot.trans_lt hlog.2)
  have hulp : ulpExp .double (magLog2 (magOf ma ea)) ≤ ea := by
    simp only [ulpExp, Fmt.emin, Fmt.fracBits]; omega
  have hlt : magReal (magOf ma ea) < 2 ^ (Fmt.double.emax + 1) :=
    htop.trans_le (zpow_le_zpow_right₀ (by norm_num) (by simp only [Fmt.emax]; omega))
  have hj : magReal (magOf ma ea) = (ma * 2 ^ (ea - ulpExp .double (magLog2 (magOf ma ea))).toNat : ℕ) *
      2 ^ ulpExp .double (magLog2 (magOf ma ea)) := by
    push_cast
    rw [zpow_toNat (by omega), mul_assoc, ← zpow_add₀ (by norm_num), sub_add_cancel, hr]
  rw [mul_assoc, ← hr]
  exact (fpEnc_spec hp hpos hlt hj).1

end operations

/-- R137, R146, R147, R222, R245, R246: all operations. -/
theorem roundsOnce_of_exactResult {F : Fmt} {op : RoundingMode → BitVec F.width × FFlags} {q : ℝ}
    (h : ExactResult F op q) : RoundsOnce F op q := by
  cases h with
  | add ha hb => exact roundsOnce_fpAdd ha hb
  | sub ha hb => exact roundsOnce_fpSub ha hb
  | mul ha hb => exact roundsOnce_fpMul ha hb
  | div ha hb hv => exact roundsOnce_fpDiv ha hb hv
  | sqrt ha hu => exact roundsOnce_fpSqrt ha hu
  | fma ha hb hc => exact roundsOnce_fpFma ha hb hc
  | fromInt n => exact roundsOnce_fpFromInt F n
  | narrow ha => exact roundsOnce_fpNarrow ha
  | widen ha => exact .inl fun _ => fpWiden_exact ha

/-- Settles O40: an exact result is at distance 0, and a rounded one is nearest by the nearest integer of last places. -/
theorem nearestResults : Obligations.NearestResults := by
  intro F op q hop v
  obtain hexact | ⟨neg, m, hp, h0, rfl, hround⟩ := roundsOnce_of_exactResult hop
  · have hdist {mode : RoundingMode} (hv : HasValue F (op mode).1 v) (w : ℝ) :
        |v - q| ≤ |w - q| ∧ (w ≠ v → |v - q| ≠ |w - q|) := by
      rw [hv.unique (hexact mode), sub_self, abs_zero]
      exact ⟨abs_nonneg _, fun hne h => hne (sub_eq_zero.1 (abs_eq_zero.1 h.symm))⟩
    exact ⟨fun hv x w _ => ⟨(hdist hv w).1, fun hne h => absurd h ((hdist hv w).2 hne)⟩,
      fun hv x w _ => ⟨(hdist hv w).1, fun hne h => absurd h ((hdist hv w).2 hne)⟩⟩
  · rw [hround, hround]
    exact ⟨fun hv x w hw => fpRound_rne_nearest hp h0 hv hw, fun hv x w hw => fpRound_rmm_nearest hp h0 hv hw⟩

end Sys2Proof.Machine
end

section
/-! Accesses of memory (R46, R60 to R63, R68, R270, R330): what is read back after a store, one rule for each way in
which a load, a store or a fetch fails, and the statements that follow from them. -/

namespace Sys2Proof.Machine

/-! ### Reading back what was stored (R46, R60, R61) -/

/-- R46: byte `k` from byte `j` on is byte `j + k`, across the wrap of the address space too. -/
theorem byteAddr_add (c : Config) (a : Word) (j k : Nat) :
    byteAddr c (a + BitVec.ofNat 64 j) k = byteAddr c a (j + k) := by
  have hs : c.space ∣ 2 ^ 64 := by unfold Config.space; cases c.xlen <;> norm_num
  have hsum : (a + BitVec.ofNat 64 j).toNat ≡ a.toNat + j [MOD c.space] := by
    rw [BitVec.toNat_add, BitVec.toNat_ofNat, Nat.add_mod_mod]
    exact (Nat.mod_modEq _ _).of_dvd hs
  rw [byteAddr, byteAddr, ← Nat.add_assoc]
  exact hsum.add_right k

/-- R61: byte `k` of a value from byte `j` on. -/
theorem byteOf_ushiftRight (v : Word) (j k : Nat) : byteOf (v >>> (8 * j)) k = byteOf v (j + k) := by
  ext i hi
  simp [byteOf, Nat.mul_add, Nat.add_assoc]

/-- Settles O26: byte `k` from byte `j` on is byte `j + k`, of the access and of the datum. -/
theorem storedBytesReadBack : Obligations.StoredBytesReadBack := by
  intro s a v n m j hn hm
  obtain ⟨hbytes, hothers⟩ := storeBytes_stored (s := s) (a := a) (v := v) hn
  refine ⟨?_, hothers⟩
  rw [← BitVec.setWidth_ushiftRight_eq_extractLsb]
  refine readBytes_of_bytes (by omega) fun k hk => ?_
  rw [byteAddr_add, byteOf_ushiftRight]
  exact hbytes (j + k) (by omega)

/-! ### A read that meets a byte without a value (R401) -/

/-- R401: a read that fails names a byte that has no value. -/
theorem memByte_of_readBytes_error {c : Config} {m : List Host.Cell} {a : Word} {p : Nat} :
    ∀ {n : Nat}, readBytes c m a n = .error p → memByte m p = none
  | n + 1, h => by
    simp only [readBytes] at h
    split at h
    · next hlo => cases h; exact memByte_of_readBytes_error hlo
    · split at h
      · next hb => cases h; exact hb
      · cases h

/-- R401: a read of bytes of which one has no value fails. -/
theorem readBytes_of_unwritten {c : Config} {m : List Host.Cell} {a : Word} {n : Nat} (hn : n ≤ 8)
    (h : ∃ k < n, memByte m (byteAddr c a k) = none) :
    ∃ p, readBytes c m a n = .error p ∧ memByte m p = none := by
  obtain ⟨k, hk, hnone⟩ := h
  cases hr : readBytes c m a n with
  | error p => exact ⟨p, rfl, memByte_of_readBytes_error hr⟩
  | ok w =>
    have hsome := (bytes_of_readBytes hn hr).1 k hk
    rw [hnone] at hsome; cases hsome

/-! ### A step that fetches no word (R68, R69, R420) -/

/-- R420: `pc` is the HALT address. -/
theorem atHalt_iff {s : State} : atHalt s = true ↔ s.cfg.halt = some (readPc s) := by simp [atHalt]

theorem atHalt_eq_false_iff {s : State} : atHalt s = false ↔ s.cfg.halt ≠ some (readPc s) := by
  rw [← Bool.not_eq_true, atHalt_iff]

/-- Settles O7: each clause is one branch of `stepHart`, and the last three are branches of `fetch`. -/
theorem stepThatFetchesNoWord : Obligations.StepThatFetchesNoWord := by
  intro s
  refine ⟨fun hh => ?_, fun hh hx => ?_, fun hh hx hc => ?_, fun hh hxc hb => ?_⟩
  · simp [step, stepHart, atHalt_iff.2 hh]
  · have hf : fetch s = .accessFault := by simp [fetch, allBytes_eq_false.2 hx]
    simp [step, stepHart, atHalt_eq_false_iff.2 hh, hf]
  · have hf : fetch s = .outsideCode := by simp [fetch, allBytes_eq_true.2 hx, allBytes_eq_false.2 hc]
    simp [step, stepHart, atHalt_eq_false_iff.2 hh, hf]
  · obtain ⟨p, hr, hp⟩ := readBytes_of_unwritten (by norm_num) hb
    have hf : fetch s = .unwritten p := by
      simp [fetch, allBytes_eq_true.2 fun k hk => (hxc k hk).1, allBytes_eq_true.2 fun k hk => (hxc k hk).2, hr]
    exact ⟨p, by simp [step, stepHart, atHalt_eq_false_iff.2 hh, hf], hp⟩

/-! ### Alignment (R62, R63) -/

/-- R62, R63: when an access raises address-misaligned. -/
theorem misalignedTraps_eq_true_iff {c : Config} {strict : Bool} {a : Word} {n : Nat} :
    misalignedTraps c strict a n = true ↔ a.toNat % n ≠ 0 ∧ (strict = true ∨ c.misaligned = .trap) := by
  simp [misalignedTraps, isAligned]

theorem misalignedTraps_eq_false_iff {c : Config} {strict : Bool} {a : Word} {n : Nat} :
    misalignedTraps c strict a n = false ↔ a.toNat % n = 0 ∨ (strict = false ∧ c.misaligned = .split) := by
  unfold misalignedTraps isAligned
  cases strict <;> cases c.misaligned <;> simp

/-! ### Loads that do not complete (R62, R63, R68, R330, R343) -/

theorem loadThen_of_misaligned {s : State} {strict : Bool} {a : Word} {n : Nat} {k : Word → State}
    (h : misalignedTraps s.cfg strict a n = true) : loadThen s strict a n k = raise .loadAddressMisaligned a s := by
  simp [loadThen, loadAccess, h]

theorem loadThen_of_unreadable {s : State} {strict : Bool} {a : Word} {n : Nat} {k : Word → State}
    (ha : misalignedTraps s.cfg strict a n = false)
    (h : ∃ j < n, readableAt s.cfg (byteAddr s.cfg a j) = false) :
    loadThen s strict a n k = raise .loadAccessFault a s := by
  simp [loadThen, loadAccess, ha, allBytes_eq_false.2 h]

theorem loadThen_of_unwritten {s : State} {strict : Bool} {a : Word} {n : Nat} {k : Word → State} (hn : n ≤ 8)
    (ha : misalignedTraps s.cfg strict a n = false)
    (hr : ∀ j < n, readableAt s.cfg (byteAddr s.cfg a j) = true)
    (h : ∃ j < n, memByte s.mem (byteAddr s.cfg a j) = none) :
    ∃ p, loadThen s strict a n k = .fault (.unwrittenByte p) ∧ memByte s.mem p = none := by
  obtain ⟨p, he, hp⟩ := readBytes_of_unwritten hn h
  exact ⟨p, by simp [loadThen, loadAccess, ha, allBytes_eq_true.2 hr, he], hp⟩

/-! ### The frames of the loads and stores (R109, R110, R155) -/

/-- R109, R223: which instructions a configuration has. -/
theorem presentIn_iff {c : Config} {i : Instr} : i.presentIn c = true ↔
    (i.rv64Only = true → c.xlen = .rv64) ∧ (i.inD = true → c.hasD = true) ∧ (i.inA = true → c.hasA = true) := by
  simp only [Instr.presentIn, Bool.and_eq_true, Bool.or_eq_true, Bool.not_eq_true', beq_iff_eq, and_assoc,
    ← Bool.not_eq_true, ← imp_iff_not_or]

theorem present_of_presentIn {i : Instr} {s : State} {k : Out} (hp : i.presentIn s.cfg = true) :
    present i s k = k := if_pos hp

/-- The instruction `i` is a load of `n` bytes at `a` in the state `s`: past its frame, `exec` is `loadThen`. -/
def RunsLoad (s : State) (i : Instr) (strict : Bool) (a : Word) (n : Nat) : Prop :=
  n ≤ 8 ∧ ∃ k, exec i s = loadThen s strict a n k

theorem runsLoad_of_present {s : State} {i : Instr} {strict : Bool} {a : Word} {n : Nat} {k : Word → State} (hn : n ≤ 8)
    (hp : i.presentIn s.cfg = true) (he : exec i s = present i s (loadThen s strict a n k)) : RunsLoad s i strict a n :=
  ⟨hn, k, he.trans (present_of_presentIn hp)⟩

theorem runsLoad_of_fpFrame {s : State} {i : Instr} {strict : Bool} {a : Word} {n : Nat} {k : Word → State} (hn : n ≤ 8)
    (hp : i.presentIn s.cfg = true) (hf : s.mstatus.fs ≠ 0) (he : exec i s = fpFrame i s (loadThen s strict a n k)) :
    RunsLoad s i strict a n :=
  ⟨hn, k, he.trans (fpFrame_of_ready hp hf)⟩

/-- Settles O20: all eleven loads are `loadThen` past their frames, and `loadThen` has one rule for each clause. -/
theorem loadsThatDoNotComplete : Obligations.LoadsThatDoNotComplete := by
  intro s i a n strict rd rs1 fd imm aq rl hload
  have hrun : RunsLoad s i strict a n := by
    obtain ⟨rfl, rfl, h⟩ | ⟨rfl, rfl, hA, h⟩ := hload
    · obtain ⟨rfl, rfl⟩ | ⟨rfl, rfl⟩ | ⟨rfl, rfl⟩ | ⟨rfl, rfl⟩ | ⟨rfl, rfl⟩ | ⟨rfl, rfl, hx⟩ | ⟨rfl, rfl, hx⟩ |
        ⟨rfl, rfl, hf⟩ | ⟨rfl, rfl, hf, hD⟩ := h
      · exact ⟨by norm_num, _, rfl⟩
      · exact ⟨by norm_num, _, rfl⟩
      · exact ⟨by norm_num, _, rfl⟩
      · exact ⟨by norm_num, _, rfl⟩
      · exact ⟨by norm_num, _, rfl⟩
      · exact runsLoad_of_present (by norm_num) (presentIn_iff.2 ⟨fun _ => hx, nofun, nofun⟩) rfl
      · exact runsLoad_of_present (by norm_num) (presentIn_iff.2 ⟨fun _ => hx, nofun, nofun⟩) rfl
      · exact runsLoad_of_fpFrame (by norm_num) (presentIn_iff.2 ⟨nofun, nofun, nofun⟩) hf rfl
      · exact runsLoad_of_fpFrame (by norm_num) (presentIn_iff.2 ⟨nofun, fun _ => hD, nofun⟩) hf rfl
    · obtain ⟨rfl, rfl⟩ | ⟨rfl, rfl, hx⟩ := h
      · exact runsLoad_of_present (by norm_num) (presentIn_iff.2 ⟨nofun, nofun, fun _ => hA⟩) rfl
      · exact runsLoad_of_present (by norm_num) (presentIn_iff.2 ⟨fun _ => hx, nofun, fun _ => hA⟩) rfl
  obtain ⟨hn, k, hk⟩ := hrun
  rw [hk]
  exact ⟨fun h1 h2 => loadThen_of_misaligned (misalignedTraps_eq_true_iff.2 ⟨h1, h2⟩),
    fun h1 => loadThen_of_unreadable (misalignedTraps_eq_false_iff.2 h1),
    fun h1 => loadThen_of_unwritten hn (misalignedTraps_eq_false_iff.2 h1)⟩

/-! ### Stores that do not complete (R62, R68, R270) -/

theorem touchesCode_eq_true {c : Config} {a : Word} {n : Nat} : touchesCode c a n = true ↔
    ∃ k < n, writableAt c (byteAddr c a k) = true ∧ codeAt c (byteAddr c a k) = true := by
  simp [touchesCode, someByte]

theorem isAligned_eq_false {a : Word} {n : Nat} : isAligned a n = false ↔ a.toNat % n ≠ 0 := by simp [isAligned]

theorem storeThen_of_misaligned {s : State} {a v : Word} {n : Nat} {k : State → State}
    (h : misalignedTraps s.cfg false a n = true) : storeThen s a v n k = raise .storeAddressMisaligned a s := by
  simp [storeThen, h]

/-- R68: an aligned store that meets a byte not writable has written nothing. -/
theorem storeThen_of_unwritable {s : State} {a v : Word} {n : Nat} {k : State → State} (ha : a.toNat % n = 0)
    (h : ∃ j < n, writableAt s.cfg (byteAddr s.cfg a j) = false) :
    storeThen s a v n k = raise .storeAccessFault a s := by
  simp [storeThen, misalignedTraps_eq_false.2 (.inl ha), allBytes_eq_false.2 h, isAligned_iff.2 ha]

/-- R62: a split store that meets a byte not writable, and no byte of `CODE`, traps after the bytes drawn. -/
theorem storeThen_of_split_unwritable {s : State} {a v : Word} {n : Nat} {k : State → State} (ha : a.toNat % n ≠ 0)
    (hs : s.cfg.misaligned = .split) (h : ∃ j < n, writableAt s.cfg (byteAddr s.cfg a j) = false)
    (hc : touchesCode s.cfg a n = false) :
    storeThen s a v n k = raise .storeAccessFault a (splitPartial s a v n) := by
  simp [storeThen, misalignedTraps_eq_false.2 (.inr hs), allBytes_eq_false.2 h, isAligned_eq_false.2 ha, hc]

/-- R68: a store that is split or meets only writable bytes is refused when one of those is a byte of `CODE`. -/
theorem storeThen_of_code {s : State} {a v : Word} {n : Nat} {k : State → State}
    (ha : misalignedTraps s.cfg false a n = false)
    (hw : (∀ j < n, writableAt s.cfg (byteAddr s.cfg a j) = true) ∨ a.toNat % n ≠ 0)
    (hc : ∃ j < n, writableAt s.cfg (byteAddr s.cfg a j) = true ∧ codeAt s.cfg (byteAddr s.cfg a j) = true) :
    storeThen s a v n k = .refused (.storeToCode a) := by
  obtain hw | hw := hw
  · simp [storeThen, ha, allBytes_eq_true.2 hw, touchesCode_eq_true.2 hc]
  · simp [storeThen, ha, isAligned_eq_false.2 hw, touchesCode_eq_true.2 hc]

/-- R273, R274: past its frame, `exec` of `fsw` and `fsd` is `storeThen` of a datum with the low bytes of `f[rs2]`. -/
theorem exec_fpStore {s : State} {i : Instr} {n : Nat} {rs2 : FReg} {rs1 : XReg} {imm : BitVec 12}
    (hf : s.mstatus.fs ≠ 0)
    (hi : (i = .fsw rs2 rs1 imm ∧ n = 4) ∨ (i = .fsd rs2 rs1 imm ∧ n = 8 ∧ s.cfg.hasD = true)) :
    n ≤ 8 ∧ ∃ v k, exec i s = storeThen s (effAddr s rs1 imm) v n k ∧ ∀ j < n, byteOf v j = byteOf (readF s rs2) j := by
  obtain ⟨rfl, rfl⟩ | ⟨rfl, rfl, hD⟩ := hi
  · have hp : (Instr.fsw rs2 rs1 imm).presentIn s.cfg = true := presentIn_iff.2 ⟨nofun, nofun, nofun⟩
    refine ⟨by norm_num, _, _, fpFrame_of_ready hp hf, ?_⟩
    refine byteOf_eq_iff_low.2 fun b hb => ?_
    simp only [readFLow, BitVec.getLsbD_setWidth]
    simp [show b < 64 by omega, show b < 32 by omega]
  · exact ⟨by norm_num, _, _, fpFrame_of_ready (presentIn_iff.2 ⟨nofun, fun _ => hD, nofun⟩) hf, fun _ _ => rfl⟩

/-- Settles O23: both stores are `storeThen` past their frames, and `storeThen` has one rule for each clause. -/
theorem storesThatDoNotComplete : Obligations.StoresThatDoNotComplete := by
  intro s i n rs2 rs1 imm hf hi
  obtain ⟨-, v, k, hk, -⟩ := exec_fpStore hf hi
  rw [hk]
  exact ⟨fun ha ht => storeThen_of_misaligned (misalignedTraps_eq_true_iff.2 ⟨ha, .inr ht⟩),
    fun ha hw => storeThen_of_unwritable ha hw,
    fun ha hw ⟨j, hj, hcode⟩ => storeThen_of_code (misalignedTraps_eq_false.2 ha) (.inl hw) ⟨j, hj, hw j hj, hcode⟩,
    fun ha hs _ hc => storeThen_of_code (misalignedTraps_eq_false.2 (.inr hs)) (.inr ha) hc⟩

/-! ### A split store that faults (R62, R372) -/

theorem raise_of_full {e : Exc} {tv : Word} {s : State} (h : s.cfg.traps = .full) :
    raise e tv s = .next (trapEntry e tv s) := by
  simp [raise, h]

theorem splitPartial_sameMemBut (s : State) (a v : Word) (n : Nat) : SameMemBut a n s (splitPartial s a v n) :=
  fun _ hp => memByte_writeBytes_of_not fun k hk _ => hp k hk

/-- R62: whatever was drawn, a byte of the access is as before, or is writable and holds its byte of the datum. -/
theorem memByte_splitPartial {s : State} {a v : Word} {n k : Nat} (hn : n ≤ 8) (hk : k < n) :
    memByte (splitPartial s a v n).mem (byteAddr s.cfg a k) = memByte s.mem (byteAddr s.cfg a k) ∨
      (writableAt s.cfg (byteAddr s.cfg a k) = true ∧
        memByte (splitPartial s a v n).mem (byteAddr s.cfg a k) = some (byteOf v k)) := by
  cases ht : splitTake s a k with
  | false => exact .inl (memByte_writeBytes_of_not_take ht hn (by omega))
  | true => exact .inr ⟨((Bool.and_eq_true _ _).mp ht).2, memByte_writeBytes_of_take ht hk hn⟩

/-- Settles O24: the trap is taken from `splitPartial`, whose memory differs from that of `s` in drawn writable bytes
only. -/
theorem splitStoreFault : Obligations.SplitStoreFault := by
  intro s i n rs2 rs1 imm hf hi htraps hs ha hw hc
  obtain ⟨hn, v, k, hk, hv⟩ := exec_fpStore hf hi
  rw [hk, storeThen_of_split_unwritable ha hs hw (touchesCode_eq_false.2 hc)]
  refine ⟨_, raise_of_full htraps, trapEntry_splitPartial_trapped _ _ s _ v n, splitPartial_sameMemBut s _ v n,
    fun j hj => ?_⟩
  rw [← hv j hj]
  exact memByte_splitPartial hn hj

end Sys2Proof.Machine
end

section
/-! The decoder and the encoder agree (R91 to R109). The idea is `Row.Exact`: a word matches a row of the table exactly
when encoding the operands that the row reads gives the word back. It is proved once for each shape of row, and both
directions of the round trip follow from it. -/

namespace Sys2Proof

/-! ### A word is put together from its fields (R92 to R98) -/

theorem encR_fields (w : Insn) :
    encR (w.extractLsb' 25 7) (rs2Of w) (rs1Of w) (rmOf w) (rdOf w) (opcodeOf w) = w := by
  unfold encR rs2Of rs1Of rmOf rdOf opcodeOf
  iterate 5 rw [BitVec.extractLsb'_append_extractLsb'_eq_extractLsb' (h := ?_)]
  · exact extract_all w
  all_goals rfl

theorem encR4_fields (w : Insn) :
    encR4 (rs3Of w) (w.extractLsb' 25 2) (rs2Of w) (rs1Of w) (rmOf w) (rdOf w) (opcodeOf w) = w := by
  unfold encR4 rs3Of rs2Of rs1Of rmOf rdOf opcodeOf
  iterate 6 rw [BitVec.extractLsb'_append_extractLsb'_eq_extractLsb' (h := ?_)]
  · exact extract_all w
  all_goals rfl

theorem encI_fields (w : Insn) : encI (iImmOf w) (rs1Of w) (rmOf w) (rdOf w) (opcodeOf w) = w := by
  unfold encI iImmOf rs1Of rmOf rdOf opcodeOf
  iterate 4 rw [BitVec.extractLsb'_append_extractLsb'_eq_extractLsb' (h := ?_)]
  · exact extract_all w
  all_goals rfl

theorem encFence_fields (w : Insn) :
    encFence (fmOf w) (predOf w) (succOf w) (rs1Of w) (rmOf w) (rdOf w) (opcodeOf w) = w := by
  unfold encFence fmOf predOf succOf rs1Of rmOf rdOf opcodeOf
  iterate 6 rw [BitVec.extractLsb'_append_extractLsb'_eq_extractLsb' (h := ?_)]
  · exact extract_all w
  all_goals rfl

theorem encU_fields (w : Insn) : encU (uImmOf w) (rdOf w) (opcodeOf w) = w := by
  unfold encU uImmOf rdOf opcodeOf
  iterate 2 rw [BitVec.extractLsb'_append_extractLsb'_eq_extractLsb' (h := ?_)]
  · exact extract_all w
  all_goals rfl

/-- The two pieces of the immediate of an S-type word are the fields it was put together from (R95, R100). -/
theorem sImmOf_pieces (w : Insn) :
    (sImmOf w).extractLsb' 5 7 = w.extractLsb' 25 7 ∧ (sImmOf w).extractLsb' 0 5 = w.extractLsb' 7 5 :=
  ⟨(extract_append_high _ _ (by norm_num)).trans (extract_all _),
    (extract_append_low _ _ (by norm_num)).trans (extract_all _)⟩

theorem encS_fields (w : Insn) : encS (sImmOf w) (rs2Of w) (rs1Of w) (rmOf w) (opcodeOf w) = w := by
  unfold encS
  obtain ⟨hhigh, hlow⟩ := sImmOf_pieces w
  rw [hhigh, hlow]
  exact encR_fields w

/-- The four pieces of the offset of a J-type word are the fields it was put together from (R98, R102). -/
theorem jImmOf_pieces (w : Insn) :
    (jImmOf w).extractLsb' 19 1 = w.extractLsb' 31 1 ∧ (jImmOf w).extractLsb' 11 8 = w.extractLsb' 12 8 ∧
      (jImmOf w).extractLsb' 10 1 = w.extractLsb' 20 1 ∧ (jImmOf w).extractLsb' 0 10 = w.extractLsb' 21 10 := by
  unfold jImmOf
  refine ⟨?_, ?_, ?_, ?_⟩
  · iterate 3 rw [extract_append_high _ _ (by norm_num)]
    exact extract_all _
  · iterate 2 rw [extract_append_high _ _ (by norm_num)]
    exact (extract_append_low _ _ (by norm_num)).trans (extract_all _)
  · rw [extract_append_high _ _ (by norm_num)]
    exact (extract_append_low _ _ (by norm_num)).trans (extract_all _)
  · exact (extract_append_low _ _ (by norm_num)).trans (extract_all _)

theorem encJ_fields (w : Insn) : encJ (jImmOf w) (rdOf w) (opcodeOf w) = w := by
  unfold encJ
  obtain ⟨h19, h11, h10, h0⟩ := jImmOf_pieces w
  rw [h19, h11, h10, h0]
  unfold rdOf opcodeOf
  iterate 5 rw [BitVec.extractLsb'_append_extractLsb'_eq_extractLsb' (h := ?_)]
  · exact extract_all w
  all_goals rfl

theorem ofBool_getLsbD (w : Insn) (k : Nat) : BitVec.ofBool (w.getLsbD k) = w.extractLsb' k 1 := by
  ext j hj; simp [show j = 0 by omega]

theorem encA_fields (w : Insn) :
    encA (w.extractLsb' 27 5) (aqOf w) (rlOf w) (rs2Of w) (rs1Of w) (rmOf w) (rdOf w) (opcodeOf w) = w := by
  unfold encA aqOf rlOf rs2Of rs1Of rmOf rdOf opcodeOf
  rw [ofBool_getLsbD, ofBool_getLsbD]
  iterate 7 rw [BitVec.extractLsb'_append_extractLsb'_eq_extractLsb' (h := ?_)]
  · exact extract_all w
  all_goals rfl

/-! ### A word is of a format with given operands when its fields are those operands -/

section formats
variable {f7 : BitVec 7} {f5 rs3 rs2 rs1 rd : BitVec 5} {f3 : BitVec 3} {f2 : BitVec 2} {op : BitVec 7}
  {imm : BitVec 12} {off u : BitVec 20} {fm pr su : BitVec 4} {aq rl : Bool} {w : Insn}

theorem eq_encR_iff : w = encR f7 rs2 rs1 f3 rd op ↔
    w.extractLsb' 25 7 = f7 ∧ rs2Of w = rs2 ∧ rs1Of w = rs1 ∧ rmOf w = f3 ∧ rdOf w = rd ∧ opcodeOf w = op := by
  constructor
  · rintro rfl; simp
  · rintro ⟨rfl, rfl, rfl, rfl, rfl, rfl⟩; exact (encR_fields w).symm

theorem eq_encR4_iff : w = encR4 rs3 f2 rs2 rs1 f3 rd op ↔ rs3Of w = rs3 ∧ w.extractLsb' 25 2 = f2 ∧
    rs2Of w = rs2 ∧ rs1Of w = rs1 ∧ rmOf w = f3 ∧ rdOf w = rd ∧ opcodeOf w = op := by
  constructor
  · rintro rfl; simp
  · rintro ⟨rfl, rfl, rfl, rfl, rfl, rfl, rfl⟩; exact (encR4_fields w).symm

theorem eq_encI_iff : w = encI imm rs1 f3 rd op ↔
    iImmOf w = imm ∧ rs1Of w = rs1 ∧ rmOf w = f3 ∧ rdOf w = rd ∧ opcodeOf w = op := by
  constructor
  · rintro rfl; simp
  · rintro ⟨rfl, rfl, rfl, rfl, rfl⟩; exact (encI_fields w).symm

theorem eq_encFence_iff : w = encFence fm pr su rs1 f3 rd op ↔ fmOf w = fm ∧ predOf w = pr ∧ succOf w = su ∧
    rs1Of w = rs1 ∧ rmOf w = f3 ∧ rdOf w = rd ∧ opcodeOf w = op := by
  constructor
  · rintro rfl; simp
  · rintro ⟨rfl, rfl, rfl, rfl, rfl, rfl, rfl⟩; exact (encFence_fields w).symm

theorem eq_encS_iff : w = encS imm rs2 rs1 f3 op ↔
    sImmOf w = imm ∧ rs2Of w = rs2 ∧ rs1Of w = rs1 ∧ rmOf w = f3 ∧ opcodeOf w = op := by
  constructor
  · rintro rfl; simp
  · rintro ⟨rfl, rfl, rfl, rfl, rfl⟩; exact (encS_fields w).symm

theorem eq_encA_iff : w = encA f5 aq rl rs2 rs1 f3 rd op ↔ w.extractLsb' 27 5 = f5 ∧ aqOf w = aq ∧ rlOf w = rl ∧
    rs2Of w = rs2 ∧ rs1Of w = rs1 ∧ rmOf w = f3 ∧ rdOf w = rd ∧ opcodeOf w = op := by
  constructor
  · rintro rfl; simp
  · rintro ⟨rfl, rfl, rfl, rfl, rfl, rfl, rfl, rfl⟩; exact (encA_fields w).symm

theorem eq_encU_iff : w = encU u rd op ↔ uImmOf w = u ∧ rdOf w = rd ∧ opcodeOf w = op := by
  constructor
  · rintro rfl; simp
  · rintro ⟨rfl, rfl, rfl⟩; exact (encU_fields w).symm

theorem eq_encJ_iff : w = encJ off rd op ↔ jImmOf w = off ∧ rdOf w = rd ∧ opcodeOf w = op := by
  constructor
  · rintro rfl; simp
  · rintro ⟨rfl, rfl, rfl⟩; exact (encJ_fields w).symm

end formats

/-! ### The fields of a masked word -/

section masked
variable (w m : Insn)

@[simp] theorem opcodeOf_and : opcodeOf (w &&& m) = opcodeOf w &&& opcodeOf m := BitVec.extractLsb'_and
@[simp] theorem rdOf_and : rdOf (w &&& m) = rdOf w &&& rdOf m := BitVec.extractLsb'_and
@[simp] theorem rmOf_and : rmOf (w &&& m) = rmOf w &&& rmOf m := BitVec.extractLsb'_and
@[simp] theorem rs1Of_and : rs1Of (w &&& m) = rs1Of w &&& rs1Of m := BitVec.extractLsb'_and
@[simp] theorem rs2Of_and : rs2Of (w &&& m) = rs2Of w &&& rs2Of m := BitVec.extractLsb'_and
@[simp] theorem rs3Of_and : rs3Of (w &&& m) = rs3Of w &&& rs3Of m := BitVec.extractLsb'_and
@[simp] theorem iImmOf_and : iImmOf (w &&& m) = iImmOf w &&& iImmOf m := BitVec.extractLsb'_and
@[simp] theorem uImmOf_and : uImmOf (w &&& m) = uImmOf w &&& uImmOf m := BitVec.extractLsb'_and
@[simp] theorem fmOf_and : fmOf (w &&& m) = fmOf w &&& fmOf m := BitVec.extractLsb'_and
@[simp] theorem predOf_and : predOf (w &&& m) = predOf w &&& predOf m := BitVec.extractLsb'_and
@[simp] theorem succOf_and : succOf (w &&& m) = succOf w &&& succOf m := BitVec.extractLsb'_and
@[simp] theorem aqOf_and : aqOf (w &&& m) = (aqOf w && aqOf m) := BitVec.getLsbD_and
@[simp] theorem rlOf_and : rlOf (w &&& m) = (rlOf w && rlOf m) := BitVec.getLsbD_and
@[simp] theorem sImmOf_and : sImmOf (w &&& m) = sImmOf w &&& sImmOf m := by
  unfold sImmOf
  rw [BitVec.and_append, BitVec.extractLsb'_and, BitVec.extractLsb'_and]
@[simp] theorem jImmOf_and : jImmOf (w &&& m) = jImmOf w &&& jImmOf m := by
  unfold jImmOf
  rw [BitVec.and_append, BitVec.and_append, BitVec.and_append]
  simp only [BitVec.extractLsb'_and]

end masked

/-! ### The rows of the table (R109) -/

/-- A word is the row's exactly when the instruction that the row reads from it has that word. -/
def Row.Exact (r : Row) : Prop := ∀ w : Insn, w &&& r.mask = r.bits ↔ encode (r.read w) = w

/-! The masks of the table cover whole fields. A row's shape is its format and the fields that its mask covers beside the
opcode. For each shape, both sides of `Row.Exact` say that these fields of the word are those of the row; the masks are
written with `BitVec.allOnes`, which `simp` keeps, so that masking a covered field leaves it as it is. -/

section shapes
variable {read : Insn → Instr} {b : Insn} {f7 : BitVec 7} {f5 rs2 : BitVec 5} {f3 : BitVec 3} {f2 : BitVec 2}
  {op : BitVec 7}

/-- R-type: `funct7`. -/
theorem exact_encR_f7 (h : ∀ w, encode (read w) = encR f7 (rs2Of w) (rs1Of w) (rmOf w) (rdOf w) op)
    (hb : b = encR f7 0 0 0 0 op) : Row.Exact ⟨0xfe00007f, b, read⟩ := by
  intro w
  have hm : (0xfe00007f : Insn) = encR (BitVec.allOnes 7) 0 0 0 0 (BitVec.allOnes 7) := by decide
  rw [hm, hb, h, eq_comm (b := w), eq_encR_iff, eq_encR_iff]
  simp [-BitVec.reduceAllOnes, BitVec.extractLsb'_and]

/-- R-type: `funct7` and `rs2`. -/
theorem exact_encR_f7_rs2 (h : ∀ w, encode (read w) = encR f7 rs2 (rs1Of w) (rmOf w) (rdOf w) op)
    (hb : b = encR f7 rs2 0 0 0 op) : Row.Exact ⟨0xfff0007f, b, read⟩ := by
  intro w
  have hm : (0xfff0007f : Insn) = encR (BitVec.allOnes 7) (BitVec.allOnes 5) 0 0 0 (BitVec.allOnes 7) := by decide
  rw [hm, hb, h, eq_comm (b := w), eq_encR_iff, eq_encR_iff]
  simp [-BitVec.reduceAllOnes, BitVec.extractLsb'_and]

/-- R-type: `funct7` and `funct3`. -/
theorem exact_encR_f7_f3 (h : ∀ w, encode (read w) = encR f7 (rs2Of w) (rs1Of w) f3 (rdOf w) op)
    (hb : b = encR f7 0 0 f3 0 op) : Row.Exact ⟨0xfe00707f, b, read⟩ := by
  intro w
  have hm : (0xfe00707f : Insn) = encR (BitVec.allOnes 7) 0 0 (BitVec.allOnes 3) 0 (BitVec.allOnes 7) := by decide
  rw [hm, hb, h, eq_comm (b := w), eq_encR_iff, eq_encR_iff]
  simp [-BitVec.reduceAllOnes, BitVec.extractLsb'_and]

/-- R-type: `funct7`, `rs2` and `funct3`. -/
theorem exact_encR_f7_rs2_f3 (h : ∀ w, encode (read w) = encR f7 rs2 (rs1Of w) f3 (rdOf w) op)
    (hb : b = encR f7 rs2 0 f3 0 op) : Row.Exact ⟨0xfff0707f, b, read⟩ := by
  intro w
  have hm : (0xfff0707f : Insn) =
      encR (BitVec.allOnes 7) (BitVec.allOnes 5) 0 (BitVec.allOnes 3) 0 (BitVec.allOnes 7) := by decide
  rw [hm, hb, h, eq_comm (b := w), eq_encR_iff, eq_encR_iff]
  simp [-BitVec.reduceAllOnes, BitVec.extractLsb'_and]

/-- R4-type: `fmt`. -/
theorem exact_encR4 (h : ∀ w, encode (read w) = encR4 (rs3Of w) f2 (rs2Of w) (rs1Of w) (rmOf w) (rdOf w) op)
    (hb : b = encR4 0 f2 0 0 0 0 op) : Row.Exact ⟨0x0600007f, b, read⟩ := by
  intro w
  have hm : (0x0600007f : Insn) = encR4 0 (BitVec.allOnes 2) 0 0 0 0 (BitVec.allOnes 7) := by decide
  rw [hm, hb, h, eq_comm (b := w), eq_encR4_iff, eq_encR4_iff]
  simp [-BitVec.reduceAllOnes, BitVec.extractLsb'_and]

/-- I-type: `funct3`. -/
theorem exact_encI (h : ∀ w, encode (read w) = encI (iImmOf w) (rs1Of w) f3 (rdOf w) op)
    (hb : b = encI 0 0 f3 0 op) : Row.Exact ⟨0x0000707f, b, read⟩ := by
  intro w
  have hm : (0x0000707f : Insn) = encI 0 0 (BitVec.allOnes 3) 0 (BitVec.allOnes 7) := by decide
  rw [hm, hb, h, eq_comm (b := w), eq_encI_iff, eq_encI_iff]
  simp [-BitVec.reduceAllOnes]

/-- I-type of `fence`: `funct3`. -/
theorem exact_encFence (h : ∀ w, encode (read w) = encFence (fmOf w) (predOf w) (succOf w) (rs1Of w) f3 (rdOf w) op)
    (hb : b = encFence 0 0 0 0 f3 0 op) : Row.Exact ⟨0x0000707f, b, read⟩ := by
  intro w
  have hm : (0x0000707f : Insn) = encFence 0 0 0 0 (BitVec.allOnes 3) 0 (BitVec.allOnes 7) := by decide
  rw [hm, hb, h, eq_comm (b := w), eq_encFence_iff, eq_encFence_iff]
  simp [-BitVec.reduceAllOnes]

/-- S-type: `funct3`. -/
theorem exact_encS (h : ∀ w, encode (read w) = encS (sImmOf w) (rs2Of w) (rs1Of w) f3 op)
    (hb : b = encS 0 0 0 f3 op) : Row.Exact ⟨0x0000707f, b, read⟩ := by
  intro w
  have hm : (0x0000707f : Insn) = encS 0 0 0 (BitVec.allOnes 3) (BitVec.allOnes 7) := by decide
  rw [hm, hb, h, eq_comm (b := w), eq_encS_iff, eq_encS_iff]
  simp [-BitVec.reduceAllOnes]

/-- R-type, atomic: `funct5`, `rs2` and `funct3`. -/
theorem exact_encA (h : ∀ w, encode (read w) = encA f5 (aqOf w) (rlOf w) rs2 (rs1Of w) f3 (rdOf w) op)
    (hb : b = encA f5 false false rs2 0 f3 0 op) : Row.Exact ⟨0xf9f0707f, b, read⟩ := by
  intro w
  have hm : (0xf9f0707f : Insn) =
      encA (BitVec.allOnes 5) false false (BitVec.allOnes 5) 0 (BitVec.allOnes 3) 0 (BitVec.allOnes 7) := by decide
  rw [hm, hb, h, eq_comm (b := w), eq_encA_iff, eq_encA_iff]
  simp [-BitVec.reduceAllOnes, BitVec.extractLsb'_and]

/-- U-type. -/
theorem exact_encU (h : ∀ w, encode (read w) = encU (uImmOf w) (rdOf w) op)
    (hb : b = encU 0 0 op) : Row.Exact ⟨0x0000007f, b, read⟩ := by
  intro w
  have hm : (0x0000007f : Insn) = encU 0 0 (BitVec.allOnes 7) := by decide
  rw [hm, hb, h, eq_comm (b := w), eq_encU_iff, eq_encU_iff]
  simp [-BitVec.reduceAllOnes]

/-- J-type. -/
theorem exact_encJ (h : ∀ w, encode (read w) = encJ (jImmOf w) (rdOf w) op)
    (hb : b = encJ 0 0 op) : Row.Exact ⟨0x0000007f, b, read⟩ := by
  intro w
  have hm : (0x0000007f : Insn) = encJ 0 0 (BitVec.allOnes 7) := by decide
  rw [hm, hb, h, eq_comm (b := w), eq_encJ_iff, eq_encJ_iff]
  simp [-BitVec.reduceAllOnes]

end shapes

theorem arithRows_exact : ∀ r ∈ arithRows, r.Exact := by
  iterate 8 refine List.forall_mem_cons.2 ⟨exact_encR_f7 (fun _ => rfl) (by decide), ?_⟩
  iterate 2 refine List.forall_mem_cons.2 ⟨exact_encR_f7_rs2 (fun _ => rfl) (by decide), ?_⟩
  iterate 4 refine List.forall_mem_cons.2 ⟨exact_encR_f7_f3 (fun _ => rfl) (by decide), ?_⟩
  iterate 8 refine List.forall_mem_cons.2 ⟨exact_encR4 (fun _ => rfl) (by decide), ?_⟩
  exact List.forall_mem_nil _

theorem compareRows_exact : ∀ r ∈ compareRows, r.Exact := by
  iterate 6 refine List.forall_mem_cons.2 ⟨exact_encR_f7_f3 (fun _ => rfl) (by decide), ?_⟩
  iterate 2 refine List.forall_mem_cons.2 ⟨exact_encR_f7_rs2_f3 (fun _ => rfl) (by decide), ?_⟩
  exact List.forall_mem_nil _

theorem convertRows_exact : ∀ r ∈ convertRows, r.Exact := by
  iterate 18 refine List.forall_mem_cons.2 ⟨exact_encR_f7_rs2 (fun _ => rfl) (by decide), ?_⟩
  iterate 4 refine List.forall_mem_cons.2 ⟨exact_encR_f7_rs2_f3 (fun _ => rfl) (by decide), ?_⟩
  exact List.forall_mem_nil _

theorem fenceRows_exact : ∀ r ∈ fenceRows, r.Exact := by
  refine List.forall_mem_cons.2 ⟨exact_encFence (fun _ => rfl) (by decide), ?_⟩
  refine List.forall_mem_cons.2 ⟨exact_encI (fun _ => rfl) (by decide), ?_⟩
  exact List.forall_mem_nil _

theorem fpMemRows_exact : ∀ r ∈ fpMemRows, r.Exact := by
  iterate 2 refine List.forall_mem_cons.2 ⟨exact_encI (fun _ => rfl) (by decide), ?_⟩
  iterate 2 refine List.forall_mem_cons.2 ⟨exact_encS (fun _ => rfl) (by decide), ?_⟩
  exact List.forall_mem_nil _

theorem signRows_exact : ∀ r ∈ signRows, r.Exact := by
  iterate 6 refine List.forall_mem_cons.2 ⟨exact_encR_f7_f3 (fun _ => rfl) (by decide), ?_⟩
  exact List.forall_mem_nil _

theorem csrRows_exact : ∀ r ∈ csrRows, r.Exact := by
  iterate 2 refine List.forall_mem_cons.2 ⟨exact_encI (fun _ => rfl) (by decide), ?_⟩
  exact List.forall_mem_nil _

theorem jumpRows_exact : ∀ r ∈ jumpRows, r.Exact := by
  refine List.forall_mem_cons.2 ⟨exact_encJ (fun _ => rfl) (by decide), ?_⟩
  refine List.forall_mem_cons.2 ⟨exact_encI (fun _ => rfl) (by decide), ?_⟩
  exact List.forall_mem_nil _

/-- The mask of `mret` covers the whole word. -/
theorem exact_mret : Row.Exact ⟨0xffffffff, 0x30200073, fun _ => .mret⟩ := by
  intro w
  have hm : (0xffffffff : Insn) = BitVec.allOnes 32 := by decide
  have hb : (0x30200073 : Insn) = encode .mret := by decide
  rw [hm, hb, BitVec.and_allOnes, eq_comm]

theorem loadSystemRows_exact : ∀ r ∈ loadSystemRows, r.Exact := by
  iterate 7 refine List.forall_mem_cons.2 ⟨exact_encI (fun _ => rfl) (by decide), ?_⟩
  refine List.forall_mem_cons.2 ⟨exact_encU (fun _ => rfl) (by decide), ?_⟩
  iterate 2 refine List.forall_mem_cons.2 ⟨exact_encA (fun _ => rfl) (by decide), ?_⟩
  refine List.forall_mem_cons.2 ⟨exact_mret, ?_⟩
  exact List.forall_mem_nil _

theorem row_exact : ∀ r ∈ rows, r.Exact := by
  unfold rows
  simp only [List.forall_mem_append]
  exact ⟨⟨⟨⟨⟨⟨⟨⟨arithRows_exact, compareRows_exact⟩, convertRows_exact⟩, fenceRows_exact⟩, fpMemRows_exact⟩,
    signRows_exact⟩, csrRows_exact⟩, jumpRows_exact⟩, loadSystemRows_exact⟩

/-- Two rows that differ in a bit that both masks cover. -/
abbrev Row.Disjoint (r r' : Row) : Prop := r.bits &&& r'.mask ≠ r'.bits &&& r.mask

theorem rows_disjoint : rows.Pairwise Row.Disjoint := by decide

theorem not_match_of_disjoint {w : Insn} {r r' : Row} (hd : r.Disjoint r')
    (h : w &&& r.mask = r.bits) : w &&& r'.mask ≠ r'.bits := by
  intro h'
  refine hd ?_
  rw [← h, ← h', BitVec.and_assoc, BitVec.and_assoc, BitVec.and_comm r.mask]

theorem row_unique {w : Insn} {r r' : Row} (hr : r ∈ rows) (hr' : r' ∈ rows) (h : w &&& r.mask = r.bits)
    (h' : w &&& r'.mask = r'.bits) : r = r' := by
  by_contra hne
  have hsymm : Std.Symm Row.Disjoint := ⟨fun _ _ hd => hd.symm⟩
  exact not_match_of_disjoint (rows_disjoint.forall hr hr' hne) h h'

theorem matching_rows_length_le_one (w : Insn) : (rows.filter fun r => w &&& r.mask == r.bits).length ≤ 1 := by
  have hd := rows_disjoint.filter fun r => w &&& r.mask == r.bits
  have hm : ∀ r ∈ rows.filter fun r => w &&& r.mask == r.bits, w &&& r.mask = r.bits :=
    fun r hr => beq_iff_eq.1 (List.mem_filter.1 hr).2
  generalize rows.filter (fun r => w &&& r.mask == r.bits) = l at hd hm ⊢
  match l with
  | [] => exact Nat.zero_le 1
  | [_] => exact Nat.le_refl 1
  | r :: r' :: _ =>
    have hrr' := List.rel_of_pairwise_cons hd List.mem_cons_self
    exact absurd (hm r' (by simp)) (not_match_of_disjoint hrr' (hm r (by simp)))

/-! ### What a word decodes to (R109, R110) -/

theorem decodeWord_of_match {w : Insn} {r : Row} (hr : r ∈ rows) (h : w &&& r.mask = r.bits) :
    decodeWord w = .instr (r.read w) := by
  unfold decodeWord
  split
  · next r' hf =>
    have hm := List.find?_some hf
    rw [row_unique hr (List.mem_of_find?_eq_some hf) h (beq_iff_eq.1 hm)]
  · next hf => exact absurd (beq_iff_eq.2 h) (List.find?_eq_none.1 hf r hr)

theorem decodeWord_of_no_match {w : Insn} (h : ∀ r ∈ rows, w &&& r.mask ≠ r.bits) :
    decodeWord w = decodeUnmatched w := by
  have hf : rows.find? (fun r => w &&& r.mask == r.bits) = none :=
    List.find?_eq_none.2 fun r hr hm => h r hr (beq_iff_eq.1 hm)
  rw [decodeWord, hf]

theorem decodeUnmatched_ne_instr (w : Insn) (i : Instr) : decodeUnmatched w ≠ .instr i := by
  unfold decodeUnmatched; split_ifs <;> nofun

theorem decodeWord_eq_instr {w : Insn} {i : Instr} (h : decodeWord w = .instr i) :
    ∃ r ∈ rows, w &&& r.mask = r.bits ∧ r.read w = i := by
  by_cases hm : ∃ r ∈ rows, w &&& r.mask = r.bits
  · obtain ⟨r, hr, hw⟩ := hm
    rw [decodeWord_of_match hr hw] at h
    exact ⟨r, hr, hw, Decoded.instr.inj h⟩
  · rw [decodeWord_of_no_match fun r hr hw => hm ⟨r, hr, hw⟩] at h
    exact absurd h (decodeUnmatched_ne_instr w i)

/-- R109: the table has its rows in the order of the constructors, and the row of an instruction reads its operands back
from the fields of its word. -/
theorem read_encode (i : Instr) : ∃ r, rows[i.ctorIdx]? = some r ∧ r.read (encode i) = i := by
  cases i <;> exact ⟨_, rfl, by simp [encode]⟩

/-- Settles O1: the row of `i` reads `i` from `encode i`, so by exactness `encode i` is a word of that row. -/
theorem decodeOfEncode : Obligations.DecodeOfEncode := by
  intro i
  obtain ⟨r, hi, hread⟩ := read_encode i
  have hr : r ∈ rows := List.mem_of_getElem? hi
  have hm : encode i &&& r.mask = r.bits := (row_exact r hr (encode i)).2 (congrArg encode hread)
  rw [decodeWord_of_match hr hm, hread]

/-- Settles O2: a word that decodes is of a row, and exactness of that row is the first half. -/
theorem encodeOfDecodeAndOneRow : Obligations.EncodeOfDecodeAndOneRow := by
  intro w
  refine ⟨fun i h => ?_, matching_rows_length_le_one w⟩
  obtain ⟨r, hr, hm, rfl⟩ := decodeWord_eq_instr h
  exact (row_exact r hr w).1 hm

end Sys2Proof
end

section
/-! What a step does with a word that no row matches (R90, R110, R115, R116), and the instructions that are illegal for
their rounding mode (R111) or in their configuration (R109, R110). -/

namespace Sys2Proof.Machine

/-! ### Words that no row matches -/

/-- R90: every row fixes bits 4:0, with bits 1:0 equal to `11` and bits 4:2 other than `111`. -/
theorem rows_length32 : ∀ r ∈ rows, r.mask.extractLsb' 0 2 = 0b11#2 ∧ r.bits.extractLsb' 0 2 = 0b11#2 ∧
    r.mask.extractLsb' 2 3 = 0b111#3 ∧ r.bits.extractLsb' 2 3 ≠ 0b111#3 := by decide

/-- R90: a 16-bit parcel or the start of a longer instruction matches no row. -/
theorem no_match_of_not_length32 {w : Insn} (h : w.extractLsb' 0 2 ≠ 0b11#2 ∨ w.extractLsb' 2 3 = 0b111#3) :
    ∀ r ∈ rows, w &&& r.mask ≠ r.bits := by
  intro r hr hm
  obtain ⟨hm0, hb0, hm2, hb2⟩ := rows_length32 r hr
  have hfield (lo len : Nat) : w.extractLsb' lo len &&& r.mask.extractLsb' lo len = r.bits.extractLsb' lo len := by
    rw [← BitVec.extractLsb'_and, hm]
  have h0 := hfield 0 2
  have h2 := hfield 2 3
  rw [hm0, hb0] at h0
  rw [hm2] at h2
  obtain h | h := h
  · exact h ((BitVec.and_allOnes (w := 2)).symm.trans h0)
  · exact hb2 (by rw [← h2, h]; rfl)

/-- Settles O4: neither word matches a row, and `decodeUnmatched` asks for the two words first. -/
theorem allZeroAndAllOnesAreIllegal : Obligations.AllZeroAndAllOnesAreIllegal := by
  intro s w hh hf hw
  have hshort : w.extractLsb' 0 2 ≠ 0b11#2 ∨ w.extractLsb' 2 3 = 0b111#3 := by
    obtain rfl | rfl := hw
    · exact .inl (by decide)
    · exact .inr (by decide)
  have hd : decodeWord w = .illegal := by
    rw [decodeWord_of_no_match (no_match_of_not_length32 hshort), decodeUnmatched, if_pos hw]
  rw [step_of_fetch hh hf, runWord, hd, illegalWord]

/-- Settles O5: each clause is one branch of `decodeUnmatched`. -/
theorem unmatchedWords : Obligations.UnmatchedWords := by
  intro s w hh hf h0 h1
  have hplain : ¬ (w = 0 ∨ w = BitVec.allOnes 32) := not_or.2 ⟨h0, h1⟩
  rw [step_of_fetch hh hf, runWord]
  refine ⟨fun hshort => ?_, fun hlow hmid hno => ?_⟩
  · have hd : decodeWord w = .notThirtyTwoBit := by
      rw [decodeWord_of_no_match (no_match_of_not_length32 hshort), decodeUnmatched, if_neg hplain, if_pos hshort]
    rw [hd]
  · have hlong : ¬ (w.extractLsb' 0 2 ≠ 0b11#2 ∨ w.extractLsb' 2 3 = 0b111#3) := not_or.2 ⟨not_not.2 hlow, hmid⟩
    rw [decodeWord_of_no_match hno, decodeUnmatched, if_neg hplain, if_neg hlong]
    refine ⟨fun hop => ?_, fun hop => ?_⟩
    · rw [if_pos hop, illegalWord]
    · rw [if_neg hop]

/-! ### Reserved rounding modes (R105, R111, R136) -/

/-- Every instruction with a rounding-mode field is in the frame of the rounded instructions. -/
theorem exec_eq_fpRounded {i : Instr} {rm : BitVec 3} (h : i.rmField = some rm) (s : State) :
    ∃ k, exec i s = fpRounded i rm s k := by
  cases i <;> cases h <;> exact ⟨_, rfl⟩

/-- R136: no mode comes of a reserved field, nor of a dynamic one while `frm` is 5, 6 or 7. -/
theorem resolveRm_eq_none {rm frm : BitVec 3}
    (h : rm = 0b101 ∨ rm = 0b110 ∨ (rm = 0b111 ∧ 5 ≤ frm.toNat)) : resolveRm rm frm = none := by
  decide +revert

theorem fpRounded_of_unresolved {i : Instr} {rm : BitVec 3} {s : State} {k : RoundingMode → Out}
    (h : resolveRm rm (fcsrFrm s.fcsr) = none) : fpRounded i rm s k = illegal i s := by
  unfold fpRounded
  rw [h]
  obtain ⟨-, -, hk⟩ | ⟨-, hk⟩ := fpFrame_cases i s (illegal i s) <;> exact hk

/-- Settles O14: past presence and `FS`, the frame asks for a mode, and there is none. -/
theorem reservedRoundingModeIsIllegal : Obligations.ReservedRoundingModeIsIllegal := by
  intro i rm s hi hrm
  obtain ⟨k, hk⟩ := exec_eq_fpRounded hi s
  exact hk.trans (fpRounded_of_unresolved (resolveRm_eq_none hrm))

/-! ### Instructions that a configuration lacks (R109, R110, R223) -/

/-- Every instruction is in the frame that asks for its presence; one that all configurations have always passes it. -/
theorem exec_eq_present (i : Instr) (s : State) : ∃ k, exec i s = present i s k := by
  cases i <;> exact ⟨_, rfl⟩

theorem exec_of_absent {i : Instr} {s : State} (h : i.presentIn s.cfg ≠ true) : exec i s = illegal i s := by
  obtain ⟨k, hk⟩ := exec_eq_present i s
  exact hk.trans (if_neg h)

/-- Settles O15: each list names instructions of one mark of the table, and the mark makes them absent. -/
theorem absentInstructionIsIllegal : Obligations.AbsentInstructionIsIllegal := by
  intro i s rd rs1 rs2 rs3 rm imm aq rl h
  refine exec_of_absent fun hp => ?_
  obtain ⟨hxlen, hD, hA⟩ := presentIn_iff.1 hp
  obtain ⟨hc, hi⟩ | ⟨hc, hi⟩ | ⟨hc, hi⟩ := h
  · have hmark : i.rv64Only = true := List.all_eq_true.1 rfl i hi
    rw [hxlen hmark] at hc; cases hc
  · have hmark : i.inD = true := List.all_eq_true.1 rfl i hi
    rw [hD hmark] at hc; cases hc
  · have hmark : i.inA = true := List.all_eq_true.1 rfl i hi
    rw [hA hmark] at hc; cases hc

end Sys2Proof.Machine
end

section
/-! The flags of the operations (R137, R141 to R145): the combinations that an operation of the IEEE numerics can give. -/

namespace Sys2Proof.Machine

/-- The flags that an operation of the IEEE numerics can give together, but for those of a division by zero (R137, R141,
R143). -/
def operationFlags : List FFlags := [flagNone, flagNX, flagNX ||| flagUF, flagOF ||| flagNX, flagNV]

theorem flagNone_mem : flagNone ∈ operationFlags := by decide

theorem flagNV_mem : flagNV ∈ operationFlags := by decide

theorem flagIf_NV_mem (b : Bool) : flagIf b flagNV ∈ operationFlags := by cases b <;> decide

theorem flagIf_NX_mem (b : Bool) : flagIf b flagNX ∈ operationFlags := by cases b <;> decide

theorem overflow_flags_mem : flagOF ||| flagNX ∈ operationFlags := by decide

theorem inexact_flags_mem (inexact tiny : Bool) :
    flagIf inexact flagNX ||| flagIf (tiny && inexact) flagUF ∈ operationFlags := by
  cases inexact <;> cases tiny <;> decide

theorem ite_flags_mem {α : Type} {c : Prop} [Decidable c] {p q : α × FFlags} (hp : p.2 ∈ operationFlags)
    (hq : q.2 ∈ operationFlags) : (if c then p else q).2 ∈ operationFlags := by
  split
  · exact hp
  · exact hq

/-! ### One lemma for each operation -/

section operations
variable (F : Fmt) (mode : RoundingMode) (a b c : BitVec F.width)

theorem fpRound_flags (neg : Bool) (m : Mag) : (fpRound F mode neg m).2 ∈ operationFlags := by
  unfold fpRound
  exact ite_flags_mem overflow_flags_mem (inexact_flags_mem _ _)

theorem valAdd_flags (x y : Val) : (valAdd F mode x y).2 ∈ operationFlags := by
  unfold valAdd
  split
  · exact flagIf_NV_mem _
  · exact flagIf_NV_mem _
  · exact flagIf_NV_mem _
  · exact ite_flags_mem flagNone_mem flagNV_mem
  · exact flagNone_mem
  · exact flagNone_mem
  · exact ite_flags_mem (ite_flags_mem flagNone_mem flagNone_mem) (fpRound_flags F mode _ _)

theorem fpMul_flags : (fpMul F mode a b).2 ∈ operationFlags := by
  unfold fpMul
  split
  · exact flagIf_NV_mem _
  · exact flagIf_NV_mem _
  · exact flagIf_NV_mem _
  · exact flagNone_mem
  · exact ite_flags_mem flagNV_mem flagNone_mem
  · exact ite_flags_mem flagNV_mem flagNone_mem
  · exact ite_flags_mem flagNone_mem (fpRound_flags F mode _ _)

/-- R142: a finite number that is not zero, over a zero. -/
def DividesByZero : Prop :=
  ∃ sa ma ea sb eb, fpVal F a = .fin sa ma ea ∧ ma ≠ 0 ∧ fpVal F b = .fin sb 0 eb

theorem fpDiv_flags : (fpDiv F mode a b).2 ∈ operationFlags ∨
    ((fpDiv F mode a b).2 = flagDZ ∧ DividesByZero F a b) := by
  unfold fpDiv
  split
  · exact .inl (flagIf_NV_mem _)
  · exact .inl (flagIf_NV_mem _)
  · exact .inl (flagIf_NV_mem _)
  · exact .inl flagNV_mem
  · exact .inl flagNone_mem
  · exact .inl flagNone_mem
  · next sa ma ea sb mb eb ha hb =>
    by_cases hmb : mb = 0
    · by_cases hma : ma = 0
      · rw [if_pos hmb, if_pos hma]; exact .inl flagNV_mem
      · rw [if_pos hmb, if_neg hma]; exact .inr ⟨rfl, sa, ma, ea, sb, eb, ha, hma, hmb ▸ hb⟩
    · rw [if_neg hmb]; exact .inl (ite_flags_mem flagNone_mem (fpRound_flags F mode _ _))

theorem fpSqrt_flags : (fpSqrt F mode a).2 ∈ operationFlags := by
  unfold fpSqrt
  split
  · exact flagIf_NV_mem _
  · exact ite_flags_mem flagNV_mem flagNone_mem
  · exact ite_flags_mem flagNone_mem (ite_flags_mem flagNV_mem (fpRound_flags F mode _ _))

theorem fpFma_flags : (fpFma F mode a b c).2 ∈ operationFlags := by
  unfold fpFma
  exact ite_flags_mem (flagIf_NV_mem _) (ite_flags_mem flagNV_mem (valAdd_flags F mode _ _))

theorem fpMinMax_flags (isMax : Bool) : (fpMinMax F isMax a b).2 =
    flagIf ((fpVal F a).isSignaling || (fpVal F b).isSignaling) flagNV := by
  unfold fpMinMax
  dsimp only
  split_ifs <;> rfl

theorem fpCompare_flags (rel : Rel) : ∃ x, (fpCompare F rel a b).2 = flagIf x flagNV := by
  unfold fpCompare
  dsimp only
  split
  · cases rel with
    | eq => exact ⟨_, rfl⟩
    | lt | le => exact ⟨true, rfl⟩
  · cases rel with
    | eq | lt | le => exact ⟨false, rfl⟩

theorem fpCompare_flags_mem (rel : Rel) : (fpCompare F rel a b).2 ∈ operationFlags := by
  obtain ⟨x, hx⟩ := fpCompare_flags F a b rel
  rw [hx]; exact flagIf_NV_mem x

theorem fpToInt_flags (n : Nat) (signed : Bool) : (fpToInt F mode a n signed).2 ∈ operationFlags := by
  unfold fpToInt
  split
  · exact flagNV_mem
  · exact flagNV_mem
  · exact ite_flags_mem flagNV_mem (ite_flags_mem flagNV_mem (flagIf_NX_mem _))

theorem fpFromInt_flags (n : Int) : (fpFromInt F mode n).2 ∈ operationFlags :=
  ite_flags_mem flagNone_mem (fpRound_flags F mode _ _)

theorem fpNarrow_flags (d : BitVec 64) : (fpNarrow mode d).2 ∈ operationFlags := by
  unfold fpNarrow
  split
  · exact flagIf_NV_mem _
  · exact flagNone_mem
  · exact ite_flags_mem flagNone_mem (fpRound_flags .single mode _ _)

end operations

theorem fpWiden_flags (f : BitVec 32) : (fpWiden f).2 = flagIf (fpVal .single f).isSignaling flagNV := by
  unfold fpWiden
  split
  · next h => rw [h]; rfl
  · next h => rw [h]; rfl
  · next h => rw [h]; split <;> rfl

/-! ### Which flags come together (R143) -/

theorem flagsTogether_of_mem {fl : FFlags} (h : fl ∈ operationFlags) : FlagsTogether fl := by
  unfold FlagsTogether; revert fl; decide

/-- Settles O47: none of the combinations that an operation gives has OF or UF without NX, or NV or DZ with one of the
three. -/
theorem flagsComeTogether : Obligations.FlagsComeTogether := by
  intro F mode a b c
  have hdz : FlagsTogether flagDZ := by unfold FlagsTogether; decide
  refine ⟨flagsTogether_of_mem (valAdd_flags F mode _ _), flagsTogether_of_mem (valAdd_flags F mode _ _),
    flagsTogether_of_mem (fpMul_flags F mode a b), ?_, flagsTogether_of_mem (fpSqrt_flags F mode a),
    flagsTogether_of_mem (fpFma_flags F mode a b c), fun isMax => ?_,
    fun rel => flagsTogether_of_mem (fpCompare_flags_mem F a b rel),
    fun n signed => flagsTogether_of_mem (fpToInt_flags F mode a n signed),
    fun n => flagsTogether_of_mem (fpFromInt_flags F mode n),
    fun d => flagsTogether_of_mem (fpNarrow_flags mode d), fun f => ?_⟩
  · obtain h | ⟨h, -⟩ := fpDiv_flags F mode a b
    · exact flagsTogether_of_mem h
    · exact h ▸ hdz
  · rw [fpMinMax_flags]; exact flagsTogether_of_mem (flagIf_NV_mem _)
  · change FlagsTogether (fpWiden f).2
    rw [fpWiden_flags]; exact flagsTogether_of_mem (flagIf_NV_mem _)

end Sys2Proof.Machine
end

section
/-! Operands and results of the floating-point instructions (R150 to R152, R155, R190 to R197): boxing, the completion of
an instruction with a rounding mode, and the fused operations. -/

namespace Sys2Proof.Machine

/-! ### Boxing (R150, R151) -/

theorem box_of_hasD {c : Config} (h : c.hasD = true) (v : BitVec 32) : box c v = 0xffffffff#32 ++ v := if_pos h

theorem unbox_box (c : Config) (v : BitVec 32) : unbox c (box c v) = v := by
  cases h : c.hasD with
  | false => simp [unbox, box, h]
  | true =>
    rw [box_of_hasD h, unbox, if_pos h, if_pos (BitVec.extractLsb'_append_eq_left ..), BitVec.setWidth_append_eq_right]

/-- R28: a boxed single read as a double has all ones in the exponent and in the top bit of the fraction. -/
theorem fpVal_double_box (v : BitVec 32) :
    (0xffffffff#32 ++ v).msb = true ∧ fpVal .double (0xffffffff#32 ++ v) = .nan false := by
  have hv : v.toNat < 2 ^ 32 := v.isLt
  have hn : (0xffffffff#32 ++ v).toNat = 0xffffffff * 2 ^ 32 + v.toNat := by
    rw [BitVec.toNat_append, ← Nat.shiftLeft_add_eq_or_of_lt hv, Nat.shiftLeft_eq]; rfl
  have hE : fpExp .double (0xffffffff#32 ++ v) = fpExpMax .double := by
    simp only [fpExp, hn, Fmt.fracBits, Fmt.expBits, fpExpMax]; omega
  have hT : fpFrac .double (0xffffffff#32 ++ v) = 0xfffff * 2 ^ 32 + v.toNat := by
    simp only [fpFrac, hn, Fmt.fracBits]; omega
  refine ⟨by rw [BitVec.msb_append]; rfl, ?_⟩
  simp only [fpVal, hE, hT, if_true, Fmt.fracBits]
  rw [if_neg (by omega), Nat.testBit_eq_decide_div_mod_eq]
  simp only [Val.nan.injEq, Bool.not_eq_false', decide_eq_true_eq]
  omega

/-- Settles O36: with D the box is the upper half of ones over the single, which is a quiet NaN as a double. -/
theorem boxingAndUnboxing : Obligations.BoxingAndUnboxing := by
  intro c v w
  refine ⟨unbox_box c v, fun hD => ?_, fun hD => ?_⟩
  · rw [box_of_hasD hD]
    exact ⟨rfl, fun hw => by simp [unbox, hD, hw, cNan32], fpVal_double_box v⟩
  · rw [unbox, hD, BitVec.setWidth_eq_extractLsb' (by norm_num)]; rfl

/-! ### The completion of an instruction with a rounding mode (R155) -/

/-- R109, D17: an instruction of D that every width has. -/
theorem presentIn_of_hasD {i : Instr} {c : Config} (h64 : i.rv64Only = false) (hA : i.inA = false)
    (hD : c.hasD = true) : i.presentIn c = true := by
  simp [presentIn_iff, h64, hA, hD]

section completes
variable {i : Instr} {rd : FReg} {rm : BitVec 3} {s : State} {mode : RoundingMode} (hp : i.presentIn s.cfg = true)
  (hf : s.mstatus.fs ≠ 0) (hm : resolveRm rm (fcsrFrm s.fcsr) = some mode)
include hp hf hm

theorem completesFS_of_rounded {r : BitVec 32 × FFlags} {k : RoundingMode → Out}
    (hexec : exec i s = fpRounded i rm s k) (hk : k mode = deliverS rd r s) : CompletesFS i rd r s :=
  ⟨_, (hexec.trans (fpRounded_of_ready hp hf hm)).trans hk, finishF_wrote (fitF_box _ _)⟩

theorem completesFD_of_rounded (hD : s.cfg.hasD = true) {r : BitVec 64 × FFlags} {k : RoundingMode → Out}
    (hexec : exec i s = fpRounded i rm s k) (hk : k mode = deliverD rd r s) : CompletesFD i rd r s :=
  ⟨_, (hexec.trans (fpRounded_of_ready hp hf hm)).trans hk, finishF_wrote (fitF_of_hasD hD _)⟩

end completes

/-! ### Fused multiply-add (R190 to R197) -/

/-- Settles O28: the negations of R192 to R197 are the exclusive or with the sign bit. -/
theorem fusedArithmeticCompletes : Obligations.FusedArithmeticCompletes := by
  intro s rd rs1 rs2 rs3 rm mode hf hm
  constructor
  · rintro _ _ _ rfl rfl rfl
    exact ⟨completesFS_of_rounded rfl hf hm rfl rfl, completesFS_of_rounded rfl hf hm rfl rfl,
      completesFS_of_rounded rfl hf hm rfl rfl, completesFS_of_rounded rfl hf hm rfl rfl⟩
  · rintro hD _ _ _ rfl rfl rfl
    have hp {i : Instr} (h64 : i.rv64Only = false) (hA : i.inA = false) := presentIn_of_hasD (i := i) h64 hA hD
    exact ⟨completesFD_of_rounded (hp rfl rfl) hf hm hD rfl rfl, completesFD_of_rounded (hp rfl rfl) hf hm hD rfl rfl,
      completesFD_of_rounded (hp rfl rfl) hf hm hD rfl rfl, completesFD_of_rounded (hp rfl rfl) hf hm hD rfl rfl⟩

end Sys2Proof.Machine
end

section
/-! The flags of the instructions (R140 to R142): which flags an instruction accrues, said once for all instructions but
the CSR instructions, and division by zero. -/

namespace Sys2Proof.Machine

/-! ### What an instruction accrues (R140, R155) -/

/-- The flags of the operation that an instruction performs on its operands in the state `s`, at the rounding mode
`mode` if it has one. -/
def raisedFlags (s : State) (mode : RoundingMode) : Instr → FFlags
  | .faddS _ rs1 rs2 _ => ((numericsOf s.cfg).add .single mode (readFS s rs1) (readFS s rs2)).2
  | .faddD _ rs1 rs2 _ => ((numericsOf s.cfg).add .double mode (readFD s rs1) (readFD s rs2)).2
  | .fsubS _ rs1 rs2 _ => ((numericsOf s.cfg).sub .single mode (readFS s rs1) (readFS s rs2)).2
  | .fsubD _ rs1 rs2 _ => ((numericsOf s.cfg).sub .double mode (readFD s rs1) (readFD s rs2)).2
  | .fmulS _ rs1 rs2 _ => ((numericsOf s.cfg).mul .single mode (readFS s rs1) (readFS s rs2)).2
  | .fmulD _ rs1 rs2 _ => ((numericsOf s.cfg).mul .double mode (readFD s rs1) (readFD s rs2)).2
  | .fdivS _ rs1 rs2 _ => ((numericsOf s.cfg).div .single mode (readFS s rs1) (readFS s rs2)).2
  | .fdivD _ rs1 rs2 _ => ((numericsOf s.cfg).div .double mode (readFD s rs1) (readFD s rs2)).2
  | .fsqrtS _ rs1 _ => ((numericsOf s.cfg).sqrt .single mode (readFS s rs1)).2
  | .fsqrtD _ rs1 _ => ((numericsOf s.cfg).sqrt .double mode (readFD s rs1)).2
  | .fminS _ rs1 rs2 => (fpMinMax .single false (readFS s rs1) (readFS s rs2)).2
  | .fminD _ rs1 rs2 => (fpMinMax .double false (readFD s rs1) (readFD s rs2)).2
  | .fmaxS _ rs1 rs2 => (fpMinMax .single true (readFS s rs1) (readFS s rs2)).2
  | .fmaxD _ rs1 rs2 => (fpMinMax .double true (readFD s rs1) (readFD s rs2)).2
  | .fmaddS _ rs1 rs2 rs3 _ => ((numericsOf s.cfg).fma .single mode (readFS s rs1) (readFS s rs2) (readFS s rs3)).2
  | .fmaddD _ rs1 rs2 rs3 _ => ((numericsOf s.cfg).fma .double mode (readFD s rs1) (readFD s rs2) (readFD s rs3)).2
  | .fmsubS _ rs1 rs2 rs3 _ =>
    ((numericsOf s.cfg).fma .single mode (readFS s rs1) (readFS s rs2) (fpNeg .single (readFS s rs3))).2
  | .fmsubD _ rs1 rs2 rs3 _ =>
    ((numericsOf s.cfg).fma .double mode (readFD s rs1) (readFD s rs2) (fpNeg .double (readFD s rs3))).2
  | .fnmsubS _ rs1 rs2 rs3 _ =>
    ((numericsOf s.cfg).fma .single mode (fpNeg .single (readFS s rs1)) (readFS s rs2) (readFS s rs3)).2
  | .fnmsubD _ rs1 rs2 rs3 _ =>
    ((numericsOf s.cfg).fma .double mode (fpNeg .double (readFD s rs1)) (readFD s rs2) (readFD s rs3)).2
  | .fnmaddS _ rs1 rs2 rs3 _ =>
    ((numericsOf s.cfg).fma .single mode (fpNeg .single (readFS s rs1)) (readFS s rs2)
      (fpNeg .single (readFS s rs3))).2
  | .fnmaddD _ rs1 rs2 rs3 _ =>
    ((numericsOf s.cfg).fma .double mode (fpNeg .double (readFD s rs1)) (readFD s rs2)
      (fpNeg .double (readFD s rs3))).2
  | .feqS _ rs1 rs2 => (fpCompare .single .eq (readFS s rs1) (readFS s rs2)).2
  | .feqD _ rs1 rs2 => (fpCompare .double .eq (readFD s rs1) (readFD s rs2)).2
  | .fltS _ rs1 rs2 => (fpCompare .single .lt (readFS s rs1) (readFS s rs2)).2
  | .fltD _ rs1 rs2 => (fpCompare .double .lt (readFD s rs1) (readFD s rs2)).2
  | .fleS _ rs1 rs2 => (fpCompare .single .le (readFS s rs1) (readFS s rs2)).2
  | .fleD _ rs1 rs2 => (fpCompare .double .le (readFD s rs1) (readFD s rs2)).2
  | .fcvtWS _ rs1 _ => ((numericsOf s.cfg).toInt .single mode (readFS s rs1) 32 true).2
  | .fcvtWuS _ rs1 _ => ((numericsOf s.cfg).toInt .single mode (readFS s rs1) 32 false).2
  | .fcvtLS _ rs1 _ => ((numericsOf s.cfg).toInt .single mode (readFS s rs1) 64 true).2
  | .fcvtLuS _ rs1 _ => ((numericsOf s.cfg).toInt .single mode (readFS s rs1) 64 false).2
  | .fcvtWD _ rs1 _ => ((numericsOf s.cfg).toInt .double mode (readFD s rs1) 32 true).2
  | .fcvtWuD _ rs1 _ => ((numericsOf s.cfg).toInt .double mode (readFD s rs1) 32 false).2
  | .fcvtLD _ rs1 _ => ((numericsOf s.cfg).toInt .double mode (readFD s rs1) 64 true).2
  | .fcvtLuD _ rs1 _ => ((numericsOf s.cfg).toInt .double mode (readFD s rs1) 64 false).2
  | .fcvtSW _ rs1 _ => ((numericsOf s.cfg).fromInt .single mode (readXLow s rs1).toInt).2
  | .fcvtSWu _ rs1 _ => ((numericsOf s.cfg).fromInt .single mode (readXLow s rs1).toNat).2
  | .fcvtSL _ rs1 _ => ((numericsOf s.cfg).fromInt .single mode (readX s rs1).toInt).2
  | .fcvtSLu _ rs1 _ => ((numericsOf s.cfg).fromInt .single mode (readX s rs1).toNat).2
  | .fcvtDW _ rs1 _ => ((numericsOf s.cfg).fromInt .double mode (readXLow s rs1).toInt).2
  | .fcvtDWu _ rs1 _ => ((numericsOf s.cfg).fromInt .double mode (readXLow s rs1).toNat).2
  | .fcvtDL _ rs1 _ => ((numericsOf s.cfg).fromInt .double mode (readX s rs1).toInt).2
  | .fcvtDLu _ rs1 _ => ((numericsOf s.cfg).fromInt .double mode (readX s rs1).toNat).2
  | .fcvtSD _ rs1 _ => ((numericsOf s.cfg).narrow mode (readFD s rs1)).2
  | .fcvtDS _ rs1 _ => ((numericsOf s.cfg).widen (readFS s rs1)).2
  | _ => flagNone

/-- From `s` to `t`, the flags are as before (an exception) or those of the operation of `i` were or-ed into them. -/
def Raises (i : Instr) (s t : State) : Prop :=
  fcsrFlags t.fcsr = fcsrFlags s.fcsr ∨ ∃ mode, fcsrFlags t.fcsr = fcsrFlags s.fcsr ||| raisedFlags s mode i

theorem accrued_of_deliverS {rd : FReg} {r : BitVec 32 × FFlags} {s t : State} (h : deliverS rd r s = .next t) :
    fcsrFlags t.fcsr = fcsrFlags s.fcsr ||| r.2 := by
  cases h; simp [finishF]

theorem accrued_of_deliverD {rd : FReg} {r : BitVec 64 × FFlags} {s t : State} (h : deliverD rd r s = .next t) :
    fcsrFlags t.fcsr = fcsrFlags s.fcsr ||| r.2 := by
  cases h; simp [finishF]

theorem accrued_of_finishX {rd : XReg} {v : Word} {fl : FFlags} {s t : State}
    (h : (.next (finishX rd v fl s) : Out) = .next t) : fcsrFlags t.fcsr = fcsrFlags s.fcsr ||| fl := by
  cases h
  unfold finishX
  split
  · next heq =>
    have hfl : fcsrFlags s.fcsr ||| fl = fcsrFlags s.fcsr := by rw [← fcsrFlags_accrue, heq]
    simp [hfl]
  · simp

theorem raises_of_fpRounded {i j : Instr} {rm : BitVec 3} {s t : State} {k : RoundingMode → Out}
    (h : fpRounded j rm s k = .next t)
    (hk : ∀ mode, k mode = .next t → fcsrFlags t.fcsr = fcsrFlags s.fcsr ||| raisedFlags s mode i) : Raises i s t := by
  obtain rfl | ⟨-, -, mode, -, h1⟩ := fpRounded_next h
  · exact .inl rfl
  · exact .inr ⟨mode, hk mode h1⟩

theorem raises_of_fpFrame {i j : Instr} {s t : State} {k : Out} (h : fpFrame j s k = .next t)
    (hk : k = .next t → ∀ mode, fcsrFlags t.fcsr = fcsrFlags s.fcsr ||| raisedFlags s mode i) : Raises i s t := by
  obtain rfl | ⟨-, -, h1⟩ := fpFrame_next h
  · exact .inl rfl
  · exact .inr ⟨.rne, hk h1 .rne⟩

theorem flags_of_intLoad {s t u : State} {strict : Bool} {a : Word} {n : Nat} {rd : XReg} {f : Word → Word}
    (hu : u.fcsr = s.fcsr) (h : loadThen s strict a n (fun v => finishInt rd (f v) u) = .next t) :
    fcsrFlags t.fcsr = fcsrFlags s.fcsr := by
  obtain ⟨e, -, rfl⟩ | ⟨-, v, -, rfl⟩ := loadThen_next h
  · rfl
  · rw [finishInt_fcsr, hu]

theorem raises_of_present {i j : Instr} {s t : State} {k : Out} (h : present j s k = .next t)
    (hk : k = .next t → fcsrFlags t.fcsr = fcsrFlags s.fcsr) : Raises i s t := by
  obtain rfl | ⟨-, h1⟩ := present_next h
  · exact .inl rfl
  · exact .inl (hk h1)

theorem raises_of_fpLoad {i j : Instr} {s t : State} {a : Word} {n : Nat} {rd : FReg} {f : Word → Word}
    (h : fpFrame j s (loadThen s false a n fun v => finishF rd (f v) flagNone s) = .next t) : Raises i s t := by
  obtain rfl | ⟨-, -, h1⟩ := fpFrame_next h
  · exact .inl rfl
  · obtain ⟨e, -, rfl⟩ | ⟨-, v, -, rfl⟩ := loadThen_next h1
    · exact .inl rfl
    · exact .inl (by simp [finishF, flagNone])

theorem raises_of_fpStore {i j : Instr} {s t : State} {a v : Word} {n : Nat}
    (h : fpFrame j s (storeThen s a v n fun u => advance (settleFs u)) = .next t) : Raises i s t := by
  obtain rfl | ⟨-, -, h1⟩ := fpFrame_next h
  · exact .inl rfl
  · obtain ⟨e, -, rfl⟩ | ⟨-, rfl⟩ | ⟨-, -, rfl⟩ := storeThen_next h1 <;> exact .inl rfl

theorem raises_of_jump {i : Instr} {s t : State} {rd : XReg} {target : Word}
    (h : jumpAndLink rd target s = .next t) : Raises i s t := by
  obtain ⟨-, h1⟩ | ⟨-, h1⟩ := jumpAndLink_cases rd target s <;> rw [h1] at h
  · cases h; exact .inl (by simp)
  · rw [(raise_next h).2]; exact .inl rfl

/-- R140, R155: an instruction that is not a CSR instruction leaves the flags alone or accrues those of its
operation. -/
theorem exec_raises {i : Instr} {s t : State} (h : exec i s = .next t)
    (hcsr : ∀ rd rs1 n, i ≠ .csrrw rd rs1 n ∧ i ≠ .csrrs rd rs1 n) : Raises i s t := by
  cases i
  case csrrw rd rs1 n => exact absurd rfl (hcsr rd rs1 n).1
  case csrrs rd rs1 n => exact absurd rfl (hcsr rd rs1 n).2
  case faddS | fsubS | fmulS | fdivS | fsqrtS | fmaddS | fmsubS | fnmsubS | fnmaddS | fcvtSW | fcvtSWu | fcvtSL |
      fcvtSLu | fcvtSD =>
    simp only [exec, execFaddS, execFsubS, execFmulS, execFdivS, execFsqrtS, execFmaddS, execFmsubS, execFnmsubS,
      execFnmaddS, execFcvtSW, execFcvtSWu, execFcvtSL, execFcvtSLu, execFcvtSD] at h
    exact raises_of_fpRounded h fun _ => accrued_of_deliverS
  case faddD | fsubD | fmulD | fdivD | fsqrtD | fmaddD | fmsubD | fnmsubD | fnmaddD | fcvtDW | fcvtDWu | fcvtDL |
      fcvtDLu | fcvtDS =>
    simp only [exec, execFaddD, execFsubD, execFmulD, execFdivD, execFsqrtD, execFmaddD, execFmsubD, execFnmsubD,
      execFnmaddD, execFcvtDW, execFcvtDWu, execFcvtDL, execFcvtDLu, execFcvtDS] at h
    exact raises_of_fpRounded h fun _ => accrued_of_deliverD
  case fcvtWS | fcvtWuS | fcvtLS | fcvtLuS | fcvtWD | fcvtWuD | fcvtLD | fcvtLuD =>
    simp only [exec, execFcvtWS, execFcvtWuS, execFcvtLS, execFcvtLuS, execFcvtWD, execFcvtWuD, execFcvtLD,
      execFcvtLuD] at h
    exact raises_of_fpRounded h fun _ => accrued_of_finishX
  case fminS | fmaxS | fmvWX | fsgnjS | fsgnjnS | fsgnjxS =>
    simp only [exec, execFminS, execFmaxS, execFmvWX, execFsgnjS, execFsgnjnS, execFsgnjxS] at h
    exact raises_of_fpFrame h fun h1 _ => accrued_of_deliverS h1
  case fminD | fmaxD | fmvDX | fsgnjD | fsgnjnD | fsgnjxD =>
    simp only [exec, execFminD, execFmaxD, execFmvDX, execFsgnjD, execFsgnjnD, execFsgnjxD] at h
    exact raises_of_fpFrame h fun h1 _ => accrued_of_deliverD h1
  case fmvXW | fmvXD | feqS | feqD | fltS | fltD | fleS | fleD | fclassS | fclassD =>
    simp only [exec, execFmvXW, execFmvXD, execFeqS, execFeqD, execFltS, execFltD, execFleS, execFleD, execFclassS,
      execFclassD] at h
    exact raises_of_fpFrame h fun h1 _ => accrued_of_finishX h1
  case flw | fld =>
    simp only [exec, execFlw, execFld] at h
    exact raises_of_fpLoad h
  case fsw | fsd =>
    simp only [exec, execFsw, execFsd] at h
    exact raises_of_fpStore h
  case fence | fenceI =>
    simp only [exec, execFence, execFenceI] at h
    cases h; exact .inl rfl
  case jal | jalr =>
    simp only [exec, execJal, execJalr] at h
    exact raises_of_jump h
  case lb | lbu | lh | lhu | lw =>
    simp only [exec, execLb, execLbu, execLh, execLhu, execLw] at h
    exact .inl (flags_of_intLoad rfl h)
  case lwu | ld | lrW | lrD =>
    simp only [exec, execLwu, execLd, execLrW, execLrD] at h
    exact raises_of_present h (flags_of_intLoad rfl)
  case lui =>
    simp only [exec, execLui] at h
    cases h; exact .inl (by simp)
  case mret =>
    simp only [exec, execMret] at h
    split at h
    · cases h; exact .inl rfl
    · rw [(illegal_next h).2]; exact .inl rfl

/-! ### Division by zero (R142) -/

theorem numericsOf_ieee754 {c : Config} (h : c.numerics = .ieee754) : numericsOf c = ieee754 := by
  rw [numericsOf, h]

/-- R142: of the operations of the IEEE numerics only a division by zero gives other flags than `operationFlags`. -/
theorem raisedFlags_mem {s : State} (hnum : s.cfg.numerics = .ieee754) (mode : RoundingMode) (i : Instr) :
    raisedFlags s mode i ∈ operationFlags ∨
    (∃ rd rs1 rs2 rm, i = .fdivS rd rs1 rs2 rm ∧ DividesByZero .single (readFS s rs1) (readFS s rs2)) ∨
    (∃ rd rs1 rs2 rm, i = .fdivD rd rs1 rs2 rm ∧ DividesByZero .double (readFD s rs1) (readFD s rs2)) := by
  have hn := numericsOf_ieee754 hnum
  cases i
  case fdivS rd rs1 rs2 rm =>
    simp only [raisedFlags, hn]
    exact (fpDiv_flags .single mode _ _).imp_right fun h => .inl ⟨rd, rs1, rs2, rm, rfl, h.2⟩
  case fdivD rd rs1 rs2 rm =>
    simp only [raisedFlags, hn]
    exact (fpDiv_flags .double mode _ _).imp_right fun h => .inr ⟨rd, rs1, rs2, rm, rfl, h.2⟩
  case faddS | faddD | fsubS | fsubD =>
    simp only [raisedFlags, hn]; exact .inl (valAdd_flags _ mode _ _)
  case fmulS | fmulD => simp only [raisedFlags, hn]; exact .inl (fpMul_flags _ mode _ _)
  case fsqrtS | fsqrtD => simp only [raisedFlags, hn]; exact .inl (fpSqrt_flags _ mode _)
  case fmaddS | fmaddD | fmsubS | fmsubD | fnmsubS | fnmsubD | fnmaddS | fnmaddD =>
    simp only [raisedFlags, hn]; exact .inl (fpFma_flags _ mode _ _ _)
  case fminS | fminD | fmaxS | fmaxD =>
    simp only [raisedFlags, fpMinMax_flags]; exact .inl (flagIf_NV_mem _)
  case feqS | feqD | fltS | fltD | fleS | fleD => exact .inl (fpCompare_flags_mem _ _ _ _)
  case fcvtWS | fcvtWuS | fcvtLS | fcvtLuS | fcvtWD | fcvtWuD | fcvtLD | fcvtLuD =>
    simp only [raisedFlags, hn]; exact .inl (fpToInt_flags _ mode _ _ _)
  case fcvtSW | fcvtSWu | fcvtSL | fcvtSLu | fcvtDW | fcvtDWu | fcvtDL | fcvtDLu =>
    simp only [raisedFlags, hn]; exact .inl (fpFromInt_flags _ mode _)
  case fcvtSD => simp only [raisedFlags, hn]; exact .inl (fpNarrow_flags mode _)
  case fcvtDS =>
    simp only [raisedFlags, hn]
    change (fpWiden _).2 ∈ _ ∨ _
    rw [fpWiden_flags]; exact .inl (flagIf_NV_mem _)
  all_goals exact .inl flagNone_mem

theorem not_getLsbD_dz_of_mem {fl : FFlags} (h : fl ∈ operationFlags) : fl.getLsbD 3 = false := by
  revert fl; decide

theorem fcsrFlags_getLsbD_dz (v : BitVec 8) : (fcsrFlags v).getLsbD 3 = v.getLsbD 3 := by
  simp [fcsrFlags]

theorem infBits_eq (F : Fmt) (neg : Bool) : infBits F neg = fpInf F neg := by cases F <;> cases neg <;> rfl

/-- R142: the result of a division by zero. -/
theorem fpDiv_by_zero {F : Fmt} {a b : BitVec F.width} {sa sb : Bool} {ma : Nat} {ea eb : Int} (mode : RoundingMode)
    (ha : fpVal F a = .fin sa ma ea) (hma : ma ≠ 0) (hb : fpVal F b = .fin sb 0 eb) :
    fpDiv F mode a b = (infBits F (sa ^^ sb), 0x08) := by
  rw [infBits_eq]; simp only [fpDiv, ha, hb, if_true, if_neg hma]; rfl

/-- Settles O54: `fdiv` delivers what the division by zero gives; an instruction after which DZ is newly set has accrued
it, and only a division by zero gives it. -/
theorem onlyDivisionByZeroSetsDz : Obligations.OnlyDivisionByZeroSetsDz := by
  refine ⟨fun s rd rs1 rs2 rm mode sa sb ma ea eb hnum hf hm hma => ⟨fun ha hb => ?_, fun hD ha hb => ?_⟩, ?_⟩
  · refine completesFS_of_rounded rfl hf hm rfl ?_
    rw [numericsOf_ieee754 hnum, ← fpDiv_by_zero mode ha hma hb]; rfl
  · refine completesFD_of_rounded (presentIn_of_hasD rfl rfl hD) hf hm hD rfl ?_
    rw [numericsOf_ieee754 hnum, ← fpDiv_by_zero mode ha hma hb]; rfl
  · intro i s t hnum h hs ht
    by_cases hcsr : ∃ rd rs1 n, i = .csrrw rd rs1 n ∨ i = .csrrs rd rs1 n
    · exact .inl hcsr
    refine .inr ?_
    rw [← fcsrFlags_getLsbD_dz] at hs ht
    have hne (rd rs1 n) : i ≠ .csrrw rd rs1 n ∧ i ≠ .csrrs rd rs1 n :=
      not_or.1 fun hi => hcsr ⟨rd, rs1, n, hi⟩
    obtain hsame | ⟨mode, hacc⟩ := exec_raises h hne
    · rw [hsame, hs] at ht; cases ht
    · obtain hmem | hdiv := raisedFlags_mem hnum mode i
      · rw [hacc, BitVec.getLsbD_or, hs, not_getLsbD_dz_of_mem hmem] at ht; cases ht
      · exact hdiv

end Sys2Proof.Machine
end

section
/-! The integer that each rounding mode picks (R32, R137): the floor, the ceiling, or the nearer of the two. -/

namespace Sys2Proof.Machine

/-! ### The ceiling and the integers -/

theorem magIsInt_iff {m : Mag} (h : m.Proper) : magIsInt m = true ↔ magReal m = magFloor m := by
  cases m with
  | ratio n d =>
    have hd : (d : ℝ) ≠ 0 := Nat.cast_ne_zero.2 (Nat.ne_of_gt h)
    rw [magIsInt, beq_iff_eq, magReal, magFloor, div_eq_iff hd]
    constructor
    · intro h0
      exact_mod_cast (Nat.div_mul_cancel (Nat.dvd_of_mod_eq_zero h0)).symm
    · intro he
      exact Nat.mod_eq_zero_of_dvd (Dvd.intro_left (n / d) (by exact_mod_cast he.symm))
  | root n d =>
    have hd : (0 : ℝ) < d := Nat.cast_pos.2 h
    rw [magIsInt, beq_iff_eq, magReal, magFloor,
      Real.sqrt_eq_iff_mul_self_eq (by positivity) (Nat.cast_nonneg _), div_eq_iff hd.ne', mul_comm, eq_comm]
    norm_cast

theorem magCeil_eq {m : Mag} (h : m.Proper) : magCeil m = ⌈magReal m⌉₊ := by
  have h1 := magFloor_le h
  have h2 := lt_magFloor_add_one h
  unfold magCeil
  split
  · next hi => rw [(magIsInt_iff h).1 hi, Nat.ceil_natCast]
  · next hi =>
    have hlt := h1.lt_of_ne fun e => hi ((magIsInt_iff h).2 e.symm)
    refine ((Nat.ceil_eq_iff (Nat.succ_ne_zero _)).2 ⟨?_, ?_⟩).symm
    · rwa [Nat.succ_sub_one]
    · push_cast; exact h2.le

/-! ### What every mode has in common -/

/-- The integer is the floor, or the one above it when the real is not an integer. -/
theorem rint_cases {u : Mag} (h : u.Proper) (mode : RoundingMode) (neg : Bool) :
    rint mode neg u = magFloor u ∨ (rint mode neg u = magFloor u + 1 ∧ (magFloor u : ℝ) < magReal u) := by
  have hceil : magCeil u = magFloor u ∨ (magCeil u = magFloor u + 1 ∧ (magFloor u : ℝ) < magReal u) := by
    unfold magCeil
    split
    · exact .inl rfl
    · next hi => exact .inr ⟨rfl, (magFloor_le h).lt_of_ne fun e => hi ((magIsInt_iff h).2 e.symm)⟩
  cases mode with
  | rtz => exact .inl rfl
  | rdn =>
    cases neg with
    | false => exact .inl rfl
    | true => exact hceil
  | rup =>
    cases neg with
    | false => exact hceil
    | true => exact .inl rfl
  | rne =>
    obtain ⟨hh, h3⟩ | ⟨hh, h3⟩ | ⟨hh, h3⟩ := magHalf_cases h <;> simp only [rint, hh]
    · exact .inl trivial
    · split
      · exact .inl rfl
      · exact .inr ⟨rfl, by linarith⟩
    · exact .inr ⟨trivial, by linarith⟩
  | rmm =>
    obtain ⟨hh, h3⟩ | ⟨hh, h3⟩ | ⟨hh, h3⟩ := magHalf_cases h <;>
      simp only [rint, hh, reduceCtorEq, if_true, if_false]
    · exact .inl trivial
    · exact .inr ⟨trivial, by linarith⟩
    · exact .inr ⟨trivial, by linarith⟩

theorem floor_le_rint {u : Mag} (h : u.Proper) (mode : RoundingMode) (neg : Bool) :
    ⌊magReal u⌋₊ ≤ rint mode neg u := by
  rw [← magFloor_eq h]
  obtain hr | ⟨hr, -⟩ := rint_cases h mode neg <;> omega

theorem rint_le_ceil {u : Mag} (h : u.Proper) (mode : RoundingMode) (neg : Bool) :
    rint mode neg u ≤ ⌈magReal u⌉₊ := by
  obtain hr | ⟨hr, hlt⟩ := rint_cases h mode neg
  · rw [hr, magFloor_eq h]; exact Nat.floor_le_ceil _
  · rw [hr]; exact Nat.lt_ceil.2 hlt

/-- An integer is rounded to itself. -/
theorem rint_of_natCast {u : Mag} {k : Nat} (h : u.Proper) (hk : magReal u = k) (mode : RoundingMode) (neg : Bool) :
    rint mode neg u = k := by
  have h1 := floor_le_rint h mode neg
  have h2 := rint_le_ceil h mode neg
  rw [hk, Nat.floor_natCast] at h1
  rw [hk, Nat.ceil_natCast] at h2
  exact le_antisymm h2 h1

/-! ### The directed modes -/

/-- The mode rounds a magnitude with this sign down to its floor. -/
def TowardsZero (mode : RoundingMode) (neg : Bool) : Prop :=
  mode = .rtz ∨ (mode = .rdn ∧ neg = false) ∨ (mode = .rup ∧ neg = true)

/-- The mode rounds a magnitude with this sign up to its ceiling. -/
def AwayFromZero (mode : RoundingMode) (neg : Bool) : Prop :=
  (mode = .rdn ∧ neg = true) ∨ (mode = .rup ∧ neg = false)

theorem rint_of_towardsZero {mode : RoundingMode} {neg : Bool} {u : Mag} (hd : TowardsZero mode neg) (h : u.Proper) :
    rint mode neg u = ⌊magReal u⌋₊ := by
  rw [← magFloor_eq h]
  obtain rfl | ⟨rfl, rfl⟩ | ⟨rfl, rfl⟩ := hd <;> rfl

theorem rint_of_awayFromZero {mode : RoundingMode} {neg : Bool} {u : Mag} (hd : AwayFromZero mode neg)
    (h : u.Proper) : rint mode neg u = ⌈magReal u⌉₊ := by
  rw [← magCeil_eq h]
  obtain ⟨rfl, rfl⟩ | ⟨rfl, rfl⟩ := hd <;> rfl

/-! ### The exact real against a rational -/

theorem below_iff {u : Mag} {q : ℚ} : u.Below q ↔ magReal u < q := by
  cases u with
  | ratio n d => rw [Mag.Below, magReal, ← Rat.cast_lt (K := ℝ)]; push_cast; rfl
  | root n d =>
    simp only [Mag.Below, magReal]
    have hc : ((n : ℚ) / d < q ^ 2) ↔ ((n : ℝ) / d < (q : ℝ) ^ 2) := by
      rw [← Rat.cast_lt (K := ℝ)]; push_cast; rfl
    have h0 : 0 ≤ q ↔ (0 : ℝ) ≤ q := Rat.cast_nonneg.symm
    rw [hc, h0]
    constructor
    · rintro ⟨hq, hlt⟩; exact (Real.sqrt_lt (by positivity) hq).2 hlt
    · intro hlt
      have hq : (0 : ℝ) ≤ q := (Real.sqrt_nonneg _).trans hlt.le
      exact ⟨hq, (Real.sqrt_lt (by positivity) hq).1 hlt⟩

theorem above_iff {u : Mag} {q : ℚ} : u.Above q ↔ (q : ℝ) < magReal u := by
  cases u with
  | ratio n d => rw [Mag.Above, magReal, ← Rat.cast_lt (K := ℝ)]; push_cast; rfl
  | root n d =>
    simp only [Mag.Above, magReal]
    have hc : (q ^ 2 < (n : ℚ) / d) ↔ ((q : ℝ) ^ 2 < (n : ℝ) / d) := by
      rw [← Rat.cast_lt (K := ℝ)]; push_cast; rfl
    have h0 : q < 0 ↔ (q : ℝ) < 0 := Rat.cast_lt_zero.symm
    rw [hc, h0]
    obtain hq | hq := lt_or_ge (q : ℝ) 0
    · exact ⟨fun _ => hq.trans_le (Real.sqrt_nonneg _), fun _ => .inl hq⟩
    · rw [Real.lt_sqrt hq]
      exact or_iff_right (not_lt.2 hq)

/-- Settles O37: the floor and the ceiling by their defining inequalities, the modes to nearest by the distance. -/
theorem roundingModesPickTheirInteger : Obligations.RoundingModesPickTheirInteger := by
  intro u neg h
  have hfl : ⌊magReal u⌋₊ ≤ magReal u ∧ magReal u < ⌊magReal u⌋₊ + 1 :=
    ⟨Nat.floor_le (magReal_nonneg u), Nat.lt_floor_add_one _⟩
  have hce : magReal u ≤ ⌈magReal u⌉₊ ∧ (⌈magReal u⌉₊ : ℝ) - 1 < magReal u :=
    ⟨Nat.le_ceil _, by linarith [Nat.ceil_lt_add_one (magReal_nonneg u)]⟩
  simp only [below_iff, above_iff, not_lt]
  push_cast
  refine ⟨?_, ?_, ?_, ?_, ?_⟩
  · rintro _ rfl
    obtain ⟨hk, htie⟩ := rint_rne h neg
    obtain ⟨h1, h2⟩ := abs_le.1 hk
    refine ⟨by linarith, by linarith, fun he => htie ?_⟩
    obtain he | he := he
    · rw [abs_of_nonneg] <;> linarith
    · rw [abs_of_nonpos] <;> linarith
  · rintro _ rfl
    obtain ⟨hk, htie⟩ := rint_rmm h neg
    obtain ⟨h1, h2⟩ := abs_le.1 hk
    refine ⟨by linarith, lt_of_le_of_ne (by linarith) fun he => ?_⟩
    have := htie (by rw [he, abs_of_nonpos] <;> linarith)
    linarith
  · rintro _ rfl
    rw [rint_of_towardsZero (.inl rfl) h]; exact hfl
  · rintro _ rfl
    cases neg with
    | true => rw [rint_of_awayFromZero (.inl ⟨rfl, rfl⟩) h]; exact hce
    | false => rw [rint_of_towardsZero (.inr (.inl ⟨rfl, rfl⟩)) h]; exact hfl
  · rintro _ rfl
    cases neg with
    | true => rw [rint_of_towardsZero (.inr (.inr ⟨rfl, rfl⟩)) h]; exact hfl
    | false => rw [rint_of_awayFromZero (.inr ⟨rfl, rfl⟩) h]; exact hce

end Sys2Proof.Machine
end

section
/-! Rounding in every mode (R134, R137): the magnitude counted in last places, the pattern and the flags of `fpRound`,
and rounding a real that the format represents. -/

namespace Sys2Proof.Machine

/-! ### The values of a format -/

/-- A pattern is its three fields side by side (R130, R131). -/
theorem fpPack_fields (F : Fmt) (b : BitVec F.width) : fpPack F b.msb (fpExp F b) (fpFrac F b) = b := by
  have hE : fpExp F b < 2 ^ F.expBits := Nat.mod_lt _ (Nat.two_pow_pos _)
  have hT : fpFrac F b < 2 ^ F.fracBits := Nat.mod_lt _ (Nat.two_pow_pos _)
  refine BitVec.eq_of_toNat_eq ?_
  have hmsb : b.msb.toNat = b.toNat / 2 ^ F.fracBits / 2 ^ F.expBits := by
    have hw : F.width - 1 = F.expBits + F.fracBits := by rw [width_eq, Nat.add_sub_cancel]
    rw [Nat.div_div_eq_div_mul, ← Nat.pow_add, BitVec.msb_eq_decide, hw, Nat.add_comm F.fracBits]
    have hlt : b.toNat < 2 ^ (F.expBits + F.fracBits) * 2 := by
      rw [← Nat.pow_succ, ← Nat.add_one, ← width_eq]; exact b.isLt
    by_cases h : 2 ^ (F.expBits + F.fracBits) ≤ b.toNat
    · rw [decide_eq_true h, Bool.toNat_true]
      exact (Nat.div_eq_of_lt_le (by omega) (by omega)).symm
    · rw [decide_eq_false h, Bool.toNat_false, Nat.div_eq_of_lt (by omega)]
  rw [fpPack_toNat hE hT, hmsb, fpExp, Nat.mul_comm _ (2 ^ F.expBits), Nat.div_add_mod, fpFrac, Nat.mul_comm,
    Nat.div_add_mod]

/-- R132: the exponent field of a finite pattern is not that of the infinities and NaNs. -/
theorem fpExp_lt_of_fin {F : Fmt} {b : BitVec F.width} {neg : Bool} {n : Nat} {e : Int}
    (h : fpVal F b = .fin neg n e) : (fpExp F b : ℤ) ≤ 2 * F.emax := by
  have hlt : fpExp F b < 2 ^ F.expBits := Nat.mod_lt _ (Nat.two_pow_pos _)
  have hmax := fpExpMax_eq F
  have hne : fpExp F b ≠ fpExpMax F := by
    intro he
    simp only [fpVal, he, if_true] at h
    split at h <;> cases h
  have hdef : fpExpMax F = 2 ^ F.expBits - 1 := rfl
  omega

theorem signReal_mul_self (neg : Bool) : signReal neg * signReal neg = 1 := by cases neg <;> norm_num [signReal]

theorem abs_signReal (neg : Bool) : |signReal neg| = 1 := by cases neg <;> norm_num [signReal]

/-- The value of the largest finite number. -/
noncomputable def largestReal (F : Fmt) : ℝ := 2 ^ (F.emax + 1) - 2 ^ (F.emax - F.fracBits)

theorem largestReal_eq (F : Fmt) : largestReal F = (2 ^ (F.fracBits + 1) - 1 : ℕ) * 2 ^ (F.emax - F.fracBits) := by
  rw [largestReal, Nat.cast_sub Nat.one_le_two_pow, sub_mul]
  push_cast
  rw [one_mul, ← zpow_natCast, ← zpow_add₀ (by norm_num)]
  congr 2; push_cast; ring

theorem hasValue_fpMaxFinite (F : Fmt) (neg : Bool) :
    HasValue F (fpMaxFinite F neg) (signReal neg * largestReal F) := by
  have h := (fpPack_normal (F := F) (neg := neg) (j := 2 ^ (F.fracBits + 1) - 1) (e := F.emax)
    (by cases F <;> decide) le_rfl (by cases F <;> decide) (by cases F <;> decide)).1
  rw [largestReal_eq]
  convert h using 2
  cases F <;> rfl

/-- R132: no value of the format is beyond the largest finite number. -/
theorem HasValue.abs_le_largest {F : Fmt} {a : BitVec F.width} {v : ℝ} (h : HasValue F a v) : |v| ≤ largestReal F := by
  obtain ⟨neg, n, e, hv, rfl⟩ := hasValue_iff.1 h
  have hT : fpFrac F a < 2 ^ F.fracBits := Nat.mod_lt _ (Nat.two_pow_pos _)
  have hE := fpExp_lt_of_fin hv
  have hmin := emin_eq F
  have hne : n ≤ 2 ^ (F.fracBits + 1) - 1 ∧ e ≤ F.emax - F.fracBits := by
    rw [pow_succ]
    obtain ⟨-, ⟨-, h1, h2⟩ | ⟨-, h1, h2⟩⟩ := fpVal_eq_fin hv
    · have : F.emin ≤ F.emax := by cases F <;> decide
      omega
    · omega
  have he : (0 : ℝ) < 2 ^ e := by positivity
  rw [signedMant_cast, abs_mul, abs_mul, abs_signReal, one_mul, Nat.abs_cast, abs_of_pos he, largestReal_eq]
  exact mul_le_mul (Nat.cast_le.2 hne.1) (zpow_le_zpow_right₀ (by norm_num) hne.2) (by positivity) (by positivity)

/-- The sign bit of a pattern whose value is not zero. -/
theorem HasValue.msb_eq {F : Fmt} {a : BitVec F.width} {neg : Bool} {y : ℝ} (h : HasValue F a (signReal neg * y))
    (hy : 0 < y) : a.msb = neg := by
  obtain ⟨s, n, e, hv, heq⟩ := hasValue_iff.1 h
  rw [(fpVal_eq_fin hv).1]
  rw [signedMant_cast] at heq
  have hn : 0 ≤ (n : ℝ) * 2 ^ e := by positivity
  cases s <;> cases neg <;> simp only [signReal, Bool.false_eq_true, if_true, if_false] at heq ⊢ <;> linarith

/-! ### A magnitude counted in last places -/

/-- The count that the mode picks, in places of `2^(c - t)`. -/
def placesAt (F : Fmt) (mode : RoundingMode) (neg : Bool) (m : Mag) (c : Int) : Nat :=
  rint mode neg (magScale m (F.fracBits - c))

section places
variable {F : Fmt} {mode : RoundingMode} {neg : Bool} {m : Mag} {c : ℤ} (hp : m.Proper)

theorem magReal_eq_scale_mul (F : Fmt) (m : Mag) (c : ℤ) :
    magReal m = magReal (magScale m (F.fracBits - c)) * 2 ^ (c - F.fracBits) := by
  rw [magReal_magScale, mul_assoc, ← zpow_add₀ (by norm_num), sub_add_sub_cancel, sub_self, zpow_zero, mul_one]

theorem two_zpow_count (F : Fmt) (c : ℤ) (n : ℕ) :
    (2 : ℝ) ^ (c - F.fracBits + n) = (2 ^ n : ℕ) * 2 ^ (c - F.fracBits) := by
  rw [add_comm, zpow_add₀ (by norm_num), zpow_natCast]; push_cast; rfl

include hp

/-- Counted in places of its binade or of a higher one, a magnitude has at most `t + 1` bits or is the power above. -/
theorem placesAt_le (h0 : 0 < magReal m) (hc : magLog2 m ≤ c) : placesAt F mode neg m c ≤ 2 ^ (F.fracBits + 1) := by
  refine (rint_le_ceil (magScale_proper hp _) mode neg).trans (Nat.ceil_le.2 ?_)
  have h1 : magReal m < 2 ^ (c - F.fracBits + (F.fracBits + 1 : ℕ)) :=
    (magLog2_isLog2 hp h0).2.trans_le (zpow_le_zpow_right₀ (by norm_num) (by push_cast; omega))
  rw [two_zpow_count, magReal_eq_scale_mul F m c] at h1
  exact (lt_of_mul_lt_mul_right h1 (by positivity)).le

/-- Counted in places of its binade or of a lower one, it has `t + 1` bits. -/
theorem le_placesAt (h0 : 0 < magReal m) (hc : c ≤ magLog2 m) : 2 ^ F.fracBits ≤ placesAt F mode neg m c := by
  refine le_trans (Nat.le_floor ?_) (floor_le_rint (magScale_proper hp _) mode neg)
  have h1 : 2 ^ (c - F.fracBits + (F.fracBits : ℕ)) ≤ magReal m :=
    le_trans (zpow_le_zpow_right₀ (by norm_num) (by omega)) (magLog2_isLog2 hp h0).1
  rw [two_zpow_count, magReal_eq_scale_mul F m c] at h1
  exact le_of_mul_le_mul_right h1 (by positivity)

/-- A whole number of places is counted exactly. -/
theorem placesAt_of_count {j : ℕ} (hj : magReal m = j * 2 ^ (c - F.fracBits)) : placesAt F mode neg m c = j := by
  refine rint_of_natCast (magScale_proper hp _) ?_ mode neg
  rw [magReal_eq_scale_mul F m c] at hj
  exact mul_right_cancel₀ (by positivity) hj

/-- The count is exact when the scaled magnitude is an integer. -/
theorem magIsInt_scale_iff : magIsInt (magScale m (F.fracBits - c)) = true ↔
    magReal m = placesAt F mode neg m c * 2 ^ (c - F.fracBits) := by
  have hs := magScale_proper hp (F.fracBits - c)
  rw [magIsInt_iff hs]
  constructor
  · intro h
    rw [magReal_eq_scale_mul F m c, placesAt, rint_of_natCast hs h, ← h]
  · intro h
    rw [magReal_eq_scale_mul F m c] at h
    have h' := mul_right_cancel₀ (by positivity) h
    rw [magFloor_eq hs, h', Nat.floor_natCast]

end places

/-! ### The pattern of a rounded result -/

/-- A count of at most `t + 1` bits, or the power of two above, is a whole number of last places of its own binade. -/
theorem exists_count_in_binade {F : Fmt} {e e' : ℤ} {k : ℕ} (hk : k ≤ 2 ^ (F.fracBits + 1))
    (he' : IsLog2 (k * 2 ^ ulpExp F e) e') : ∃ j : ℕ, (k : ℝ) * 2 ^ ulpExp F e = j * 2 ^ ulpExp F e' := by
  have hpow : ((2 ^ (F.fracBits + 1) : ℕ) : ℝ) * 2 ^ ulpExp F e = 2 ^ (ulpExp F e + F.fracBits + 1) := by
    rw [add_assoc, zpow_add₀ (by norm_num) (ulpExp F e), mul_comm]; norm_cast
  obtain hlt | rfl := hk.lt_or_eq
  · have h1 : (k : ℝ) * 2 ^ ulpExp F e < 2 ^ (ulpExp F e + F.fracBits + 1) := by
      rw [← hpow]; exact mul_lt_mul_of_pos_right (Nat.cast_lt.2 hlt) (by positivity)
    have h2 := two_zpow_lt_iff.1 (he'.1.trans_lt h1)
    have h3 : ulpExp F e' ≤ ulpExp F e := by unfold ulpExp at h2 ⊢; omega
    refine ⟨k * 2 ^ (ulpExp F e - ulpExp F e').toNat, ?_⟩
    push_cast
    rw [zpow_toNat (by omega), mul_assoc, ← zpow_add₀ (by norm_num), sub_add_cancel]
  · rw [hpow] at he'
    have hnext : ulpExp F e' = ulpExp F e + 1 := by rw [he'.unique (isLog2_two_zpow _)]; unfold ulpExp; omega
    refine ⟨2 ^ F.fracBits, ?_⟩
    rw [hnext, zpow_add_one₀ (by norm_num), pow_succ]; push_cast; ring

section round
variable {F : Fmt} {mode : RoundingMode} {neg : Bool} {m : Mag}

theorem lastPlaces_eq_placesAt : lastPlaces F mode neg m = placesAt F mode neg m (max (magLog2 m) F.emin) := rfl

/-- The rounded magnitude. -/
noncomputable def roundedReal (F : Fmt) (mode : RoundingMode) (neg : Bool) (m : Mag) : ℝ :=
  lastPlaces F mode neg m * 2 ^ ulpExp F (magLog2 m)

theorem roundedReal_nonneg : 0 ≤ roundedReal F mode neg m := by unfold roundedReal; positivity

theorem magLtPow2_rounded_iff : magLtPow2 (magOf (lastPlaces F mode neg m) (ulpExp F (magLog2 m))) (F.emax + 1) = true ↔
    roundedReal F mode neg m < 2 ^ (F.emax + 1) := by
  rw [magLtPow2_iff (magOf_proper _ _), magReal_magOf, roundedReal]

/-- R137: the flags of a result that does not overflow. -/
theorem fpRound_snd_of_lt (hlt : roundedReal F mode neg m < 2 ^ (F.emax + 1)) : (fpRound F mode neg m).2 =
    flagIf (!magIsInt (magScale m (F.fracBits - max (magLog2 m) F.emin))) flagNX |||
      flagIf (magLtPow2 (magOf (placesAt F mode neg m (magLog2 m)) (magLog2 m - F.fracBits)) F.emin &&
        !magIsInt (magScale m (F.fracBits - max (magLog2 m) F.emin))) flagUF := by
  have h := magLtPow2_rounded_iff.2 hlt
  unfold fpRound
  rw [if_neg]
  · rfl
  · rw [Bool.not_eq_true, Bool.not_eq_false']; exact h

/-- R137, R138: an overflow. -/
theorem fpRound_of_overflow (h : ¬ roundedReal F mode neg m < 2 ^ (F.emax + 1)) :
    fpRound F mode neg m = (fpOverflow F mode neg, flagOF ||| flagNX) := by
  have h' := mt magLtPow2_rounded_iff.1 h
  unfold fpRound
  rw [if_pos]
  rw [Bool.not_eq_true']; exact (Bool.not_eq_true _).mp h'

variable (hp : m.Proper) (h0 : 0 < magReal m)
include hp h0

/-- R134, R137: a result that does not overflow is finite, of the rounded magnitude and the sign of the exact real. -/
theorem fpRound_fst_of_lt (hlt : roundedReal F mode neg m < 2 ^ (F.emax + 1)) :
    HasValue F (fpRound F mode neg m).1 (signReal neg * roundedReal F mode neg m) ∧
      (fpRound F mode neg m).1.msb = neg := by
  rw [fpRound_fst, if_pos (magLtPow2_rounded_iff.2 hlt)]
  split
  · next hz =>
    have hr : roundedReal F mode neg m = 0 := by rw [roundedReal, hz]; simp
    rw [hr, mul_zero]
    exact ⟨hasValue_fpZero F neg, msb_fpPack (Nat.two_pow_pos _) (Nat.two_pow_pos _)⟩
  · next hz =>
    have hB := magOf_proper (lastPlaces F mode neg m) (ulpExp F (magLog2 m))
    have hBr : magReal (magOf (lastPlaces F mode neg m) (ulpExp F (magLog2 m))) = roundedReal F mode neg m :=
      magReal_magOf _ _
    have hr : 0 < roundedReal F mode neg m := by
      have : (0 : ℝ) < lastPlaces F mode neg m := Nat.cast_pos.2 (Nat.pos_of_ne_zero hz)
      unfold roundedReal; positivity
    have hB0 := hBr.symm ▸ hr
    obtain ⟨j, hj⟩ := exists_count_in_binade (placesAt_le hp h0 (le_max_left _ _))
      (e' := magLog2 (magOf (lastPlaces F mode neg m) (ulpExp F (magLog2 m)))) (hBr ▸ magLog2_isLog2 hB hB0)
    have hval := (fpEnc_spec (neg := neg) hB hB0 (hBr.symm ▸ hlt) (hBr.trans hj)).1
    rw [hBr] at hval
    exact ⟨hval, hval.msb_eq hr⟩

/-- R134, R137, R143: a whole number of last places within the range of the format is encoded as it is, with no flag. -/
theorem fpRound_of_count {j : ℕ} (hj : magReal m = j * 2 ^ ulpExp F (magLog2 m))
    (hlt : magReal m < 2 ^ (F.emax + 1)) :
    fpRound F mode neg m = (fpEnc F neg (magOf j (ulpExp F (magLog2 m))), flagNone) := by
  have hk : lastPlaces F mode neg m = j := placesAt_of_count hp hj
  have hr : roundedReal F mode neg m = magReal m := by rw [roundedReal, hk, hj]
  have hlt' := hr.symm ▸ hlt
  have hint : magIsInt (magScale m (F.fracBits - max (magLog2 m) F.emin)) = true :=
    (magIsInt_scale_iff (mode := mode) (neg := neg) hp).2 hr.symm
  have hj0 : j ≠ 0 := by rintro rfl; rw [hj] at h0; simp at h0
  refine Prod.ext ?_ ?_
  · rw [fpRound_fst, if_pos (magLtPow2_rounded_iff.2 hlt'), hk, if_neg hj0]
  · rw [fpRound_snd_of_lt hlt', hint, Bool.not_true, Bool.and_false]; rfl

end round

/-! ### A real that the format represents (R134) -/

/-- The binade of a finite pattern that is not a zero, and its last place. -/
theorem ulpExp_of_fin {F : Fmt} {a : BitVec F.width} {neg : Bool} {n : ℕ} {e l : ℤ} (hv : fpVal F a = .fin neg n e)
    (hl : IsLog2 (n * 2 ^ e) l) : ulpExp F l = e := by
  have hT : fpFrac F a < 2 ^ F.fracBits := Nat.mod_lt _ (Nat.two_pow_pos _)
  have hmin := emin_eq F
  obtain ⟨-, ⟨-, h1, rfl⟩ | ⟨hE, h1, rfl⟩⟩ := fpVal_eq_fin hv
  · have h2 : (n : ℝ) * 2 ^ (F.emin - F.fracBits) < 2 ^ (F.emin - F.fracBits + F.fracBits) :=
      count_lt_iff.2 (by omega)
    have h3 := two_zpow_lt_iff.1 (hl.1.trans_lt h2)
    unfold ulpExp; omega
  · have h2 : (n : ℝ) * 2 ^ (fpExp F a - F.emax - F.fracBits) <
        2 ^ (fpExp F a - F.emax - F.fracBits + (F.fracBits + 1 : ℕ)) := count_lt_iff.2 (by rw [pow_succ]; omega)
    have h3 := two_zpow_lt_iff.1 (hl.1.trans_lt h2)
    have h4 : (2 : ℝ) ^ (fpExp F a - F.emax - F.fracBits + F.fracBits) ≤
        n * 2 ^ (fpExp F a - F.emax - F.fracBits) := not_lt.1 fun h => by
      have := count_lt_iff.1 h; omega
    have h5 := two_zpow_lt_iff.1 (h4.trans_lt hl.2)
    push_cast at h3
    unfold ulpExp; omega

theorem magReal_magOf_pos {n : ℕ} (hn : n ≠ 0) (e : ℤ) : 0 < magReal (magOf n e) := by
  have hn' : (0 : ℝ) < n := Nat.cast_pos.2 (Nat.pos_of_ne_zero hn)
  rw [magReal_magOf]; positivity

/-- R134: encoding the value of a finite pattern gives the pattern. -/
theorem fpEnc_of_fin {F : Fmt} {a : BitVec F.width} {neg : Bool} {n : ℕ} {e : ℤ} (hv : fpVal F a = .fin neg n e)
    (hn : n ≠ 0) : fpEnc F neg (magOf n e) = a := by
  have hp := magOf_proper n e
  have hr := magReal_magOf n e
  have h0 := magReal_magOf_pos hn e
  have hl := magLog2_isLog2 hp h0
  have hulp := ulpExp_of_fin hv (hr ▸ hl)
  have hT : fpFrac F a < 2 ^ F.fracBits := Nat.mod_lt _ (Nat.two_pow_pos _)
  have hfields := fpPack_fields F a
  have hmin := emin_eq F
  rw [fpEnc_pos hp h0]
  obtain ⟨hs, ⟨hE, h1, rfl⟩ | ⟨hE, h1, h2⟩⟩ := fpVal_eq_fin hv
  · have h3 : magReal (magOf n (F.emin - F.fracBits)) < 2 ^ (F.emin - F.fracBits + F.fracBits) := by
      rw [hr]; exact count_lt_iff.2 (by omega)
    rw [sub_add_cancel] at h3
    rw [if_pos h3, ← neg_sub F.emin, magFloor_scale_eq hp hr, ← hfields, hE, h1, hs]
  · have h3 : ¬ magReal (magOf n e) < 2 ^ F.emin := fun h => by
      have h4 := hr ▸ h
      have h5 : (n : ℝ) * 2 ^ e < 2 ^ (e + F.fracBits) :=
        h4.trans_le (zpow_le_zpow_right₀ (by norm_num) (by omega))
      have := count_lt_iff.1 h5; omega
    have h4 : F.emin ≤ magLog2 (magOf n e) := by
      by_contra h
      exact h3 (hl.2.trans_le (zpow_le_zpow_right₀ (by norm_num) (by omega)))
    have h5 : magLog2 (magOf n e) - F.fracBits = e := by
      rwa [ulpExp, max_eq_left h4] at hulp
    have h6 : magReal (magOf n e) = n * 2 ^ (magLog2 (magOf n e) - F.fracBits) := hr.trans (by rw [h5])
    rw [if_neg h3, ← neg_sub, magFloor_scale_eq hp h6, ← hfields, hs]
    congr 1 <;> omega

/-- Settles O38: the value of a finite pattern is a whole number of its last places. -/
theorem representableRoundsToItself : Obligations.RepresentableRoundsToItself := by
  intro F mode a neg n e hv hn
  have hr := magReal_magOf n e
  have h0 := magReal_magOf_pos hn e
  have hulp := ulpExp_of_fin hv (hr ▸ magLog2_isLog2 (magOf_proper n e) h0)
  have hval : HasValue F a (signReal neg * (n * 2 ^ e)) :=
    hasValue_iff.2 ⟨neg, n, e, hv, by rw [signedMant_cast, mul_assoc]⟩
  have hle := hval.abs_le_largest
  rw [abs_mul, abs_signReal, one_mul, ← hr, abs_of_pos h0] at hle
  have hlt : magReal (magOf n e) < 2 ^ (F.emax + 1) :=
    hle.trans_lt (sub_lt_self _ (by positivity))
  refine (fpRound_of_count (magOf_proper n e) h0 (by rw [hulp, hr]) hlt).trans ?_
  rw [hulp, fpEnc_of_fin hv hn]

end Sys2Proof.Machine
end

section
/-! The directed modes, for every operation (R137, R143, R146, R147): a finite result is the greatest value of the format
not beyond the exact real, or the least not before it, and it is the exact real when NX is not set. -/

namespace Sys2Proof.Machine

/-- A value of the format is a whole number of the last places of the binade `e`, or it is below that binade. -/
theorem HasValue.count_or_below {F : Fmt} {a : BitVec F.width} {w : ℝ} (h : HasValue F a w) (e : ℤ) :
    (∃ n : ℤ, w = n * 2 ^ ulpExp F e) ∨ (F.emin ≤ e ∧ w < 2 ^ e) := by
  obtain ⟨z, X, hz, hX, rfl⟩ := h.exists_int
  obtain hle | hlt := le_or_gt (ulpExp F e) X
  · refine .inl ⟨z * 2 ^ (X - ulpExp F e).toNat, ?_⟩
    push_cast
    rw [zpow_toNat (by omega), mul_assoc, ← zpow_add₀ (by norm_num), sub_add_cancel]
  · refine .inr ⟨by unfold ulpExp at hlt; omega, ?_⟩
    have hz' : (z : ℝ) < 2 ^ (F.fracBits + 1) := by exact_mod_cast (abs_lt.1 hz).2
    calc (z : ℝ) * 2 ^ X < 2 ^ (F.fracBits + 1) * 2 ^ X := by gcongr
      _ = 2 ^ (F.fracBits + 1 + X) := by rw [zpow_add₀ (by norm_num)]; norm_cast
      _ ≤ 2 ^ e := zpow_le_zpow_right₀ (by norm_num) (by unfold ulpExp at hlt; omega)

theorem HasValue.signReal_mul {F : Fmt} {a : BitVec F.width} {w : ℝ} (h : HasValue F a w) (neg : Bool) :
    ∃ b, HasValue F b (signReal neg * w) := by
  cases neg with
  | false => exact ⟨a, by simpa [signReal] using h⟩
  | true => exact ⟨_, by simpa [signReal] using h.fpNeg⟩

theorem scaledReal_nonneg (F : Fmt) (m : Mag) : 0 ≤ scaledReal F m := mul_nonneg (magReal_nonneg m) (by positivity)

section round
variable {F : Fmt} {mode : RoundingMode} {neg : Bool} {m : Mag} (hp : m.Proper)
include hp

theorem roundedReal_le_of_towardsZero (hd : TowardsZero mode neg) : roundedReal F mode neg m ≤ magReal m := by
  rw [roundedReal, lastPlaces, rint_of_towardsZero hd (magScale_proper hp _), magReal_scale_ulp, magReal_eq_scaled F m]
  exact mul_le_mul_of_nonneg_right (Nat.floor_le (scaledReal_nonneg F m)) (by positivity)

theorem le_roundedReal_of_awayFromZero (hd : AwayFromZero mode neg) : magReal m ≤ roundedReal F mode neg m := by
  rw [roundedReal, lastPlaces, rint_of_awayFromZero hd (magScale_proper hp _), magReal_scale_ulp,
    magReal_eq_scaled F m]
  exact mul_le_mul_of_nonneg_right (Nat.le_ceil _) (by positivity)

/-- R137, R143: the rounded magnitude is the exact one when the scaled one is an integer. -/
theorem roundedReal_eq_iff : roundedReal F mode neg m = magReal m ↔
    magIsInt (magScale m (F.fracBits - max (magLog2 m) F.emin)) = true := by
  rw [magIsInt_scale_iff (mode := mode) (neg := neg) hp, eq_comm]; rfl

variable (h0 : 0 < magReal m)
include h0

/-- The lower end of the binade is not above the rounded magnitude. -/
theorem two_zpow_le_roundedReal (h : F.emin ≤ magLog2 m) : 2 ^ magLog2 m ≤ roundedReal F mode neg m := by
  have hk : 2 ^ F.fracBits ≤ lastPlaces F mode neg m := le_placesAt hp h0 (max_eq_left h).le
  have he : (2 : ℝ) ^ magLog2 m = (2 ^ F.fracBits : ℕ) * 2 ^ ulpExp F (magLog2 m) := by
    rw [← two_zpow_eq_count, max_eq_left h, sub_add_cancel]
  rw [he, roundedReal]
  exact mul_le_mul_of_nonneg_right (Nat.cast_le.2 hk) (by positivity)

/-- R137: rounded down, the magnitude is the greatest of the format not above it. -/
theorem le_roundedReal_of_towardsZero (hd : TowardsZero mode neg) {x : BitVec F.width} {w : ℝ} (hw : HasValue F x w)
    (hle : w ≤ magReal m) : w ≤ roundedReal F mode neg m := by
  obtain ⟨n, rfl⟩ | ⟨hmin, hlt⟩ := hw.count_or_below (magLog2 m)
  · rw [roundedReal, lastPlaces, rint_of_towardsZero hd (magScale_proper hp _), magReal_scale_ulp]
    rw [magReal_eq_scaled F m] at hle
    have hn : n ≤ ⌊scaledReal F m⌋ := Int.le_floor.2 (le_of_mul_le_mul_right hle (by positivity))
    rw [natCast_floor_eq_intCast_floor (scaledReal_nonneg F m)]
    exact mul_le_mul_of_nonneg_right (Int.cast_le.2 hn) (by positivity)
  · exact hlt.le.trans (two_zpow_le_roundedReal hp h0 hmin)

/-- R137: rounded up, the magnitude is the least of the format not below it. -/
theorem roundedReal_le_of_awayFromZero (hd : AwayFromZero mode neg) {x : BitVec F.width} {w : ℝ} (hw : HasValue F x w)
    (hle : magReal m ≤ w) : roundedReal F mode neg m ≤ w := by
  obtain ⟨n, rfl⟩ | ⟨-, hlt⟩ := hw.count_or_below (magLog2 m)
  · rw [roundedReal, lastPlaces, rint_of_awayFromZero hd (magScale_proper hp _), magReal_scale_ulp]
    rw [magReal_eq_scaled F m] at hle
    have hn : ⌈scaledReal F m⌉ ≤ n := Int.ceil_le.2 (le_of_mul_le_mul_right hle (by positivity))
    rw [natCast_ceil_eq_intCast_ceil (scaledReal_nonneg F m)]
    exact mul_le_mul_of_nonneg_right (Int.cast_le.2 hn) (by positivity)
  · exact absurd ((magLog2_isLog2 hp h0).1.trans hle) (not_le.2 hlt)

/-- R137, R138: a finite result of a mode that rounds this sign down, the largest finite number of an overflow
included. -/
theorem fpRound_towardsZero (hd : TowardsZero mode neg) {v : ℝ} (hv : HasValue F (fpRound F mode neg m).1 v) :
    ∃ y, v = signReal neg * y ∧ 0 ≤ y ∧ y ≤ magReal m ∧ ∀ x w, HasValue F x w → w ≤ magReal m → w ≤ y := by
  have hle := roundedReal_le_of_towardsZero (F := F) hp hd
  by_cases hlt : roundedReal F mode neg m < 2 ^ (F.emax + 1)
  · exact ⟨_, hv.unique (fpRound_fst_of_lt hp h0 hlt).1, roundedReal_nonneg, hle,
      fun x w hw h => le_roundedReal_of_towardsZero hp h0 hd hw h⟩
  · have hmax : fpOverflow F mode neg = fpMaxFinite F neg := by
      obtain rfl | ⟨rfl, rfl⟩ | ⟨rfl, rfl⟩ := hd <;> rfl
    rw [fpRound_of_overflow hlt, hmax] at hv
    have hbig : largestReal F < 2 ^ (F.emax + 1) := sub_lt_self _ (by positivity)
    refine ⟨_, hv.unique (hasValue_fpMaxFinite F neg), ?_, ?_, fun x w hw _ => (le_abs_self w).trans hw.abs_le_largest⟩
    · rw [largestReal_eq]; positivity
    · linarith

/-- R137: a finite result of a mode that rounds this sign up. -/
theorem fpRound_awayFromZero (hd : AwayFromZero mode neg) {v : ℝ} (hv : HasValue F (fpRound F mode neg m).1 v) :
    ∃ y, v = signReal neg * y ∧ magReal m ≤ y ∧ ∀ x w, HasValue F x w → magReal m ≤ w → y ≤ w := by
  by_cases hlt : roundedReal F mode neg m < 2 ^ (F.emax + 1)
  · exact ⟨_, hv.unique (fpRound_fst_of_lt hp h0 hlt).1, le_roundedReal_of_awayFromZero hp hd,
      fun x w hw h => roundedReal_le_of_awayFromZero hp h0 hd hw h⟩
  · have hinf : fpOverflow F mode neg = fpInf F neg := by
      obtain ⟨rfl, rfl⟩ | ⟨rfl, rfl⟩ := hd <;> rfl
    rw [fpRound_of_overflow hlt, hinf] at hv
    exact absurd hv (not_hasValue_fpInf F neg v)

theorem fpRound_exact_of_not_nx {v : ℝ} (hv : HasValue F (fpRound F mode neg m).1 v)
    (hnx : (fpRound F mode neg m).2.getLsbD 0 = false) : v = signReal neg * magReal m := by
  by_cases hlt : roundedReal F mode neg m < 2 ^ (F.emax + 1)
  · rw [hv.unique (fpRound_fst_of_lt hp h0 hlt).1]
    congr 1
    have hbit (tiny : Bool) : (flagIf (!false) flagNX ||| flagIf (tiny && !false) flagUF).getLsbD 0 = true := by
      cases tiny <;> decide
    rw [fpRound_snd_of_lt hlt] at hnx
    rw [roundedReal_eq_iff hp]
    by_contra hne
    rw [Bool.not_eq_true] at hne
    rw [hne] at hnx
    exact absurd (hnx.symm.trans (hbit _)) Bool.false_ne_true
  · have hbit : (flagOF ||| flagNX).getLsbD 0 = true := by decide
    rw [fpRound_of_overflow hlt] at hnx
    exact absurd (hnx.symm.trans hbit) Bool.false_ne_true

/-! ### Rounding down, up and towards zero (R137) -/

theorem fpRound_rdn {v : ℝ} (hv : HasValue F (fpRound F .rdn neg m).1 v) : v ≤ signReal neg * magReal m ∧
    ∀ x w, HasValue F x w → w ≤ signReal neg * magReal m → w ≤ v := by
  cases neg with
  | false =>
    obtain ⟨y, rfl, -, hle, hbest⟩ := fpRound_towardsZero hp h0 (.inr (.inl ⟨rfl, rfl⟩)) hv
    simpa [signReal] using ⟨hle, hbest⟩
  | true =>
    obtain ⟨y, rfl, hle, hbest⟩ := fpRound_awayFromZero hp h0 (.inl ⟨rfl, rfl⟩) hv
    simp only [signReal, if_true, neg_one_mul, neg_le_neg_iff]
    exact ⟨hle, fun x w hw h => le_neg.1 (hbest _ _ hw.fpNeg (le_neg.1 h))⟩

theorem fpRound_rup {v : ℝ} (hv : HasValue F (fpRound F .rup neg m).1 v) : signReal neg * magReal m ≤ v ∧
    ∀ x w, HasValue F x w → signReal neg * magReal m ≤ w → v ≤ w := by
  cases neg with
  | false =>
    obtain ⟨y, rfl, hle, hbest⟩ := fpRound_awayFromZero hp h0 (.inr ⟨rfl, rfl⟩) hv
    simpa [signReal] using ⟨hle, hbest⟩
  | true =>
    obtain ⟨y, rfl, -, hle, hbest⟩ := fpRound_towardsZero hp h0 (.inr (.inr ⟨rfl, rfl⟩)) hv
    simp only [signReal, if_true, neg_one_mul, neg_le_neg_iff]
    exact ⟨hle, fun x w hw h => neg_le.1 (hbest _ _ hw.fpNeg (neg_le.1 h))⟩

theorem fpRound_rtz {v : ℝ} (hv : HasValue F (fpRound F .rtz neg m).1 v) :
    |v| ≤ |signReal neg * magReal m| ∧ 0 ≤ v * (signReal neg * magReal m) ∧
      ∀ x w, HasValue F x w → |w| ≤ |signReal neg * magReal m| → |w| ≤ |v| := by
  obtain ⟨y, rfl, hy, hle, hbest⟩ := fpRound_towardsZero hp h0 (.inl rfl) hv
  simp only [abs_mul, abs_signReal, one_mul, abs_of_pos h0, abs_of_nonneg hy]
  refine ⟨hle, ?_, fun x w hw h => ?_⟩
  · rw [mul_mul_mul_comm, signReal_mul_self, one_mul]; positivity
  · obtain ⟨b, hb⟩ : ∃ b, HasValue F b |w| := by
      obtain ⟨b, hb⟩ := hw.signReal_mul (decide (w < 0))
      refine ⟨b, ?_⟩
      obtain hneg | hpos := lt_or_ge w 0
      · simpa [hneg, signReal, abs_of_neg hneg] using hb
      · simpa [not_lt.2 hpos, signReal, abs_of_nonneg hpos] using hb
    exact hbest b _ hb h

end round

/-- Settles O39: an exact result is at distance 0, and a rounded one is bracketed by the integers of last places. -/
theorem roundedResultsBracketTheExactOne : Obligations.RoundedResultsBracketTheExactOne := by
  intro F op q hop v
  obtain hexact | ⟨neg, m, hp, h0, rfl, hround⟩ := roundsOnce_of_exactResult hop
  · have hv {mode : RoundingMode} (hv : HasValue F (op mode).1 v) : v = q := hv.unique (hexact mode)
    refine ⟨fun h => ?_, fun h => ?_, fun h => ?_, fun mode h _ => hv h⟩ <;> obtain rfl := hv h
    · exact ⟨le_rfl, fun _ _ _ h => h⟩
    · exact ⟨le_rfl, fun _ _ _ h => h⟩
    · exact ⟨le_rfl, mul_self_nonneg v, fun _ _ _ h => h⟩
  · simp only [hround]
    exact ⟨fun h => fpRound_rdn hp h0 h, fun h => fpRound_rup hp h0 h, fun h => fpRound_rtz hp h0 h,
      fun mode h hnx => fpRound_exact_of_not_nx hp h0 h hnx⟩

end Sys2Proof.Machine
end

section
/-! Overflow, underflow and inexact, for every operation and mode (R137, R138, R143): when a rounded magnitude reaches a
power of two, the flags of `fpRound`, and the operations whose result is exact. -/

namespace Sys2Proof.Machine

/-! ### Reaching a power of two by rounding -/

/-- The magnitude `r`, rounded to a multiple of `g`, is `N` or more, where `N` is an even multiple of `g`: to nearest
from halfway below `N` on, upwards from just above the multiple before `N` on. -/
def Reaches (mode : RoundingMode) (neg : Bool) (N g r : ℝ) : Prop :=
  match mode with
  | .rne => N - g / 2 ≤ r
  | .rmm => N - g / 2 ≤ r
  | .rtz => N ≤ r
  | .rdn => if neg then N - g < r else N ≤ r
  | .rup => if neg then N ≤ r else N - g < r

theorem reaches_towardsZero {mode : RoundingMode} {neg : Bool} (hd : TowardsZero mode neg) (N g r : ℝ) :
    Reaches mode neg N g r ↔ N ≤ r := by
  obtain rfl | ⟨rfl, rfl⟩ | ⟨rfl, rfl⟩ := hd <;> rfl

theorem reaches_awayFromZero {mode : RoundingMode} {neg : Bool} (hd : AwayFromZero mode neg) (N g r : ℝ) :
    Reaches mode neg N g r ↔ N - g < r := by
  obtain ⟨rfl, rfl⟩ | ⟨rfl, rfl⟩ := hd <;> rfl

theorem reaches_nearest {mode : RoundingMode} (hm : mode = .rne ∨ mode = .rmm) (neg : Bool) (N g r : ℝ) :
    Reaches mode neg N g r ↔ N - g / 2 ≤ r := by
  obtain rfl | rfl := hm <;> rfl

/-- A mode rounds a magnitude to nearest, down or up. -/
theorem mode_cases (mode : RoundingMode) (neg : Bool) :
    (mode = .rne ∨ mode = .rmm) ∨ TowardsZero mode neg ∨ AwayFromZero mode neg := by
  cases mode <;> cases neg <;> simp [TowardsZero, AwayFromZero]

theorem reaches_of_le {mode : RoundingMode} {neg : Bool} {N g r : ℝ} (hg : 0 < g) (h : N ≤ r) :
    Reaches mode neg N g r := by
  obtain hm | hd | hd := mode_cases mode neg
  · rw [reaches_nearest hm]; linarith
  · rwa [reaches_towardsZero hd]
  · rw [reaches_awayFromZero hd]; linarith

theorem Reaches.sub_le {mode : RoundingMode} {neg : Bool} {N g r : ℝ} (hg : 0 < g) (h : Reaches mode neg N g r) :
    N - g ≤ r := by
  obtain hm | hd | hd := mode_cases mode neg
  · rw [reaches_nearest hm] at h; linarith
  · rw [reaches_towardsZero hd] at h; linarith
  · rw [reaches_awayFromZero hd] at h; exact h.le

theorem reaches_mul {mode : RoundingMode} {neg : Bool} {n g u : ℝ} (hg : 0 < g) :
    Reaches mode neg (n * g) g (u * g) ↔ Reaches mode neg n 1 u := by
  obtain hm | hd | hd := mode_cases mode neg
  · rw [reaches_nearest hm, reaches_nearest hm, show n * g - g / 2 = (n - 1 / 2) * g by ring, mul_le_mul_iff_left₀ hg]
  · rw [reaches_towardsZero hd, reaches_towardsZero hd, mul_le_mul_iff_left₀ hg]
  · rw [reaches_awayFromZero hd, reaches_awayFromZero hd, show n * g - g = (n - 1) * g by ring, mul_lt_mul_iff_left₀ hg]

/-- R137: when the integer that a mode picks reaches an even one. -/
theorem le_rint_iff {u : Mag} (h : u.Proper) {n : ℕ} (hn : n % 2 = 0) (mode : RoundingMode) (neg : Bool) :
    n ≤ rint mode neg u ↔ Reaches mode neg n 1 (magReal u) := by
  obtain hm | hd | hd := mode_cases mode neg
  · have hk : |(rint mode neg u : ℝ) - magReal u| ≤ 1 / 2 ∧
        (rint mode neg u + 1 = n → magReal u ≠ n - 1 / 2) := by
      obtain rfl | rfl := hm
      · obtain ⟨hk, htie⟩ := rint_rne h neg
        refine ⟨hk, fun hlast he => ?_⟩
        have hlast' : (rint .rne neg u : ℝ) + 1 = n := by exact_mod_cast hlast
        have := htie (by rw [he, ← hlast', abs_of_nonpos] <;> linarith)
        omega
      · obtain ⟨hk, htie⟩ := rint_rmm h neg
        refine ⟨hk, fun hlast he => ?_⟩
        have hlast' : (rint .rmm neg u : ℝ) + 1 = n := by exact_mod_cast hlast
        have := htie (by rw [he, ← hlast', abs_of_nonpos] <;> linarith)
        linarith
    obtain ⟨h1, h2⟩ := abs_le.1 hk.1
    rw [reaches_nearest hm]
    constructor
    · intro hle
      have : (n : ℝ) ≤ rint mode neg u := Nat.cast_le.2 hle
      linarith
    · intro hle
      by_contra hlt
      have hlt' : ((rint mode neg u + 1 : ℕ) : ℝ) ≤ n := Nat.cast_le.2 (by omega)
      push_cast at hlt'
      have hlast : ((rint mode neg u + 1 : ℕ) : ℝ) = n := by push_cast; linarith
      exact hk.2 (Nat.cast_injective hlast) (by linarith)
  · rw [reaches_towardsZero hd, rint_of_towardsZero hd h, Nat.le_floor_iff (magReal_nonneg u)]
  · rw [reaches_awayFromZero hd, rint_of_awayFromZero hd h]
    cases n with
    | zero => exact ⟨fun _ => by linarith [magReal_nonneg u, Nat.cast_zero (R := ℝ)], fun _ => Nat.zero_le _⟩
    | succ n => rw [Nat.succ_le_iff, Nat.lt_ceil]; push_cast; rw [add_sub_cancel_right]

section round
variable {F : Fmt} {mode : RoundingMode} {neg : Bool} {m : Mag} (hp : m.Proper) (h0 : 0 < magReal m)
include hp h0

/-- When a magnitude counted in the places of its binade, or in those of one that is well below `2^E`, reaches `2^E`.
Only in the binade below `2^E` does it depend on the mode, and there `2^E` is `2^(t+1)` places. -/
theorem two_zpow_le_placesAt_iff {c E : ℤ} (hc : c = magLog2 m ∨ (magLog2 m < c ∧ c + 2 ≤ E)) :
    (2 : ℝ) ^ E ≤ placesAt F mode neg m c * 2 ^ (c - F.fracBits) ↔
      Reaches mode neg (2 ^ E) (2 ^ (E - 1 - F.fracBits)) (magReal m) := by
  have hlog := magLog2_isLog2 hp h0
  have hg : (0 : ℝ) < 2 ^ (E - 1 - F.fracBits) := by positivity
  have hg' : (0 : ℝ) < 2 ^ (c - F.fracBits) := by positivity
  obtain hlow | hbin | hhigh : c + 2 ≤ E ∨ (E = c + 1 ∧ c = magLog2 m) ∨ (E ≤ c ∧ c = magLog2 m) := by omega
  · have hk : (placesAt F mode neg m c : ℝ) ≤ (2 ^ (F.fracBits + 1) : ℕ) :=
      Nat.cast_le.2 (placesAt_le hp h0 (by omega))
    have hr : magReal m < 2 ^ (E - 1) := hlog.2.trans_le (zpow_le_zpow_right₀ (by norm_num) (by omega))
    have hE : (2 : ℝ) ^ E = 2 ^ (E - 1) + 2 ^ (E - 1) := by rw [← mul_two, ← zpow_add_one₀ (by norm_num)]; ring_nf
    have hgE : (2 : ℝ) ^ (E - 1 - F.fracBits) ≤ 2 ^ (E - 1) := zpow_le_zpow_right₀ (by norm_num) (by omega)
    refine iff_of_false (not_le.2 ?_) fun h => ?_
    · calc (placesAt F mode neg m c : ℝ) * 2 ^ (c - F.fracBits)
          ≤ (2 ^ (F.fracBits + 1) : ℕ) * 2 ^ (c - F.fracBits) := mul_le_mul_of_nonneg_right hk hg'.le
        _ = 2 ^ (c - F.fracBits + (F.fracBits + 1 : ℕ)) := (two_zpow_count F c _).symm
        _ < 2 ^ E := two_zpow_lt_iff.2 (by push_cast; omega)
    · linarith [h.sub_le hg]
  · obtain ⟨rfl, -⟩ := hbin
    have hE : (2 : ℝ) ^ (c + 1) = (2 ^ (F.fracBits + 1) : ℕ) * 2 ^ (c - F.fracBits) := by
      rw [← two_zpow_count]; congr 1; push_cast; ring
    rw [add_sub_cancel_right, hE, mul_le_mul_iff_left₀ hg', magReal_eq_scale_mul F m c, reaches_mul hg', Nat.cast_le]
    exact le_rint_iff (magScale_proper hp _) (by rw [pow_succ]; omega) mode neg
  · refine iff_of_true ?_ (reaches_of_le hg (le_trans (zpow_le_zpow_right₀ (by norm_num) (by omega)) hlog.1))
    calc (2 : ℝ) ^ E ≤ 2 ^ (c - F.fracBits + (F.fracBits : ℕ)) := zpow_le_zpow_right₀ (by norm_num) (by omega)
      _ = (2 ^ F.fracBits : ℕ) * 2 ^ (c - F.fracBits) := two_zpow_count F c _
      _ ≤ placesAt F mode neg m c * 2 ^ (c - F.fracBits) :=
        mul_le_mul_of_nonneg_right (Nat.cast_le.2 (le_placesAt hp h0 hhigh.2.le)) hg'.le

/-- R137: overflow. -/
theorem not_roundedReal_lt_iff : ¬ roundedReal F mode neg m < 2 ^ (F.emax + 1) ↔
    Overflows F mode (signReal neg * magReal m) := by
  have hgap : F.emin + 2 ≤ F.emax + 1 := by cases F <;> decide
  have h := two_zpow_le_placesAt_iff (F := F) (mode := mode) (neg := neg) (c := max (magLog2 m) F.emin)
    (E := F.emax + 1) hp h0 (by omega)
  have hhalf : (2 : ℝ) ^ (F.emax - F.fracBits - 1) = 2 ^ (F.emax - F.fracBits) / 2 := zpow_sub_one₀ (by norm_num) _
  have hpos : 0 < largestReal F := by
    rw [largestReal_eq]; have : (0 : ℝ) < (2 ^ (F.fracBits + 1) - 1 : ℕ) := by cases F <;> norm_num [Fmt.fracBits]
    positivity
  have habs : |signReal neg * magReal m| = magReal m := by rw [abs_mul, abs_signReal, one_mul, abs_of_pos h0]
  have htop : (0 : ℝ) < 2 ^ (F.emax + 1) := by positivity
  unfold largestReal at hpos
  rw [not_lt, roundedReal, lastPlaces_eq_placesAt, ulpExp, h, add_sub_cancel_right]
  cases mode with
  | rne | rmm => simp only [Reaches, Overflows, habs, hhalf]
  | rtz => simp only [Reaches, Overflows, habs]
  | rdn =>
    cases neg <;> simp only [Reaches, Overflows, signReal, Bool.false_eq_true, if_true, if_false, one_mul, neg_one_mul,
      neg_neg]
    · exact (or_iff_left (by linarith)).symm
    · exact (or_iff_right (by linarith)).symm
  | rup =>
    cases neg <;> simp only [Reaches, Overflows, signReal, Bool.false_eq_true, if_true, if_false, one_mul, neg_one_mul,
      neg_neg]
    · exact (or_iff_right (by linarith)).symm
    · exact (or_iff_left (by linarith)).symm

/-- R137: tininess, after rounding with no bound on the exponent. -/
theorem magLtPow2_places_iff :
    magLtPow2 (magOf (placesAt F mode neg m (magLog2 m)) (magLog2 m - F.fracBits)) F.emin = true ↔
      Tiny F mode (signReal neg * magReal m) := by
  have h := two_zpow_le_placesAt_iff (F := F) (mode := mode) (neg := neg) (E := F.emin) hp h0 (.inl rfl)
  have habs : |signReal neg * magReal m| = magReal m := by rw [abs_mul, abs_signReal, one_mul, abs_of_pos h0]
  have hexp : F.emin - 1 - F.fracBits = F.emin - F.fracBits - 1 := by ring
  have hhalf : (2 : ℝ) ^ (F.emin - F.fracBits - 2) = 2 ^ (F.emin - F.fracBits - 1) / 2 := by
    rw [div_eq_mul_inv, ← zpow_sub_one₀ (by norm_num : (2 : ℝ) ≠ 0)]; congr 1; ring
  have hg : (2 : ℝ) ^ (F.emin - F.fracBits - 1) ≤ 2 ^ F.emin := zpow_le_zpow_right₀ (by norm_num) (by omega)
  have hN : (0 : ℝ) < 2 ^ F.emin := by positivity
  rw [magLtPow2_iff (magOf_proper _ _), magReal_magOf, ← not_le, h, hexp]
  cases mode with
  | rne | rmm => simp only [Reaches, Tiny, habs, hhalf, not_le]
  | rtz => simp only [Reaches, Tiny, habs, not_le]
  | rdn =>
    cases neg <;> simp only [Reaches, Tiny, signReal, Bool.false_eq_true, if_true, if_false, one_mul, neg_one_mul,
      neg_neg, not_le, not_lt]
    · exact (and_iff_left (by linarith)).symm
    · exact (and_iff_right (by linarith)).symm
  | rup =>
    cases neg <;> simp only [Reaches, Tiny, signReal, Bool.false_eq_true, if_true, if_false, one_mul, neg_one_mul,
      neg_neg, not_le, not_lt]
    · exact (and_iff_right (by linarith)).symm
    · exact (and_iff_left (by linarith)).symm

/-- R137, R143: the flags of a result that does not overflow, by the exact real. -/
theorem fpRound_snd_cases (hlt : roundedReal F mode neg m < 2 ^ (F.emax + 1)) :
    (roundedReal F mode neg m = magReal m → (fpRound F mode neg m).2 = 0b00000) ∧
    (roundedReal F mode neg m ≠ magReal m → Tiny F mode (signReal neg * magReal m) →
      (fpRound F mode neg m).2 = 0b00011) ∧
    (roundedReal F mode neg m ≠ magReal m → ¬ Tiny F mode (signReal neg * magReal m) →
      (fpRound F mode neg m).2 = 0b00001) := by
  rw [fpRound_snd_of_lt hlt, ne_eq, roundedReal_eq_iff hp, Bool.not_eq_true, ← magLtPow2_places_iff hp h0,
    Bool.not_eq_true]
  refine ⟨fun h => ?_, fun h ht => ?_, fun h ht => ?_⟩
  · rw [h, Bool.not_true, Bool.and_false]; rfl
  · rw [h, ht]; rfl
  · rw [h, ht]; rfl

end round

/-! ### The operations whose result is exact -/

theorem signedMant_mul_neg_iff {neg : Bool} {n : ℕ} {e : ℤ} :
    ((signedMant neg n : ℤ) : ℝ) * 2 ^ e < 0 ↔ neg = true ∧ n ≠ 0 := by
  have he : (0 : ℝ) < 2 ^ e := by positivity
  rw [← not_le, mul_nonneg_iff_of_pos_right he, not_le, Int.cast_lt_zero]
  cases neg <;> simp [signedMant, Nat.pos_iff_ne_zero]

/-- The results of an operation in all modes set no flag, or they are one magnitude rounded. -/
def FlagFreeOrRounded (F : Fmt) (op : RoundingMode → BitVec F.width × FFlags) : Prop :=
  (∀ mode, (op mode).2 = flagNone) ∨
    ∃ neg m, m.Proper ∧ 0 < magReal m ∧ ∀ mode, op mode = fpRound F mode neg m

theorem flagFree_or_fpRound {F : Fmt} {p : Prop} [Decidable p] {z : RoundingMode → BitVec F.width × FFlags}
    {neg : Bool} {m : Mag} (hz : ∀ mode, (z mode).2 = flagNone) (hp : m.Proper) (h0 : ¬ p → 0 < magReal m) :
    FlagFreeOrRounded F fun mode => if p then z mode else fpRound F mode neg m := by
  by_cases h : p
  · exact .inl fun mode => (congrArg Prod.snd (if_pos h)).trans (hz mode)
  · exact .inr ⟨neg, m, hp, h0 h, fun mode => if_neg h⟩

theorem flagFreeOrRounded_valAdd (F : Fmt) (sa : Bool) (ma : Nat) (ea : Int) (sb : Bool) (mb : Nat) (eb : Int) :
    FlagFreeOrRounded F fun mode => valAdd F mode (.fin sa ma ea) (.fin sb mb eb) :=
  flagFree_or_fpRound (fun mode => by split <;> rfl) (magOf_proper _ _)
    fun h => magReal_magOf_pos (Int.natAbs_ne_zero.2 h) _

theorem flagFreeOrRounded_of_exactResult {F : Fmt} {op : RoundingMode → BitVec F.width × FFlags} {q : ℝ}
    (h : ExactResult F op q) : FlagFreeOrRounded F op := by
  cases h with
  | add ha hb =>
    obtain ⟨sa, ma, ea, hva, -⟩ := hasValue_iff.1 ha
    obtain ⟨sb, mb, eb, hvb, -⟩ := hasValue_iff.1 hb
    simp only [ieee754, fpAdd, hva, hvb]
    exact flagFreeOrRounded_valAdd F sa ma ea sb mb eb
  | sub ha hb =>
    obtain ⟨sa, ma, ea, hva, -⟩ := hasValue_iff.1 ha
    obtain ⟨sb, mb, eb, hvb, -⟩ := hasValue_iff.1 hb
    simp only [ieee754, fpSub, fpAdd, hva, fpVal_fpNeg hvb]
    exact flagFreeOrRounded_valAdd F sa ma ea _ mb eb
  | mul ha hb =>
    obtain ⟨sa, ma, ea, hva, -⟩ := hasValue_iff.1 ha
    obtain ⟨sb, mb, eb, hvb, -⟩ := hasValue_iff.1 hb
    simp only [ieee754, fpMul, hva, hvb]
    exact flagFree_or_fpRound (fun _ => rfl) (magOf_proper _ _)
      fun h => magReal_magOf_pos (mul_ne_zero (not_or.1 h).1 (not_or.1 h).2) _
  | div ha hb hv =>
    obtain ⟨sa, ma, ea, hva, -⟩ := hasValue_iff.1 ha
    obtain ⟨sb, mb, eb, hvb, rfl⟩ := hasValue_iff.1 hb
    have hmb : mb ≠ 0 := by rintro rfl; simp [signedMant] at hv
    have hmb' : (0 : ℝ) < mb := Nat.cast_pos.2 (Nat.pos_of_ne_zero hmb)
    simp only [ieee754, fpDiv, hva, hvb, if_neg hmb]
    refine flagFree_or_fpRound (fun _ => rfl) (magScale_proper (m := .ratio ma mb) (Nat.pos_of_ne_zero hmb) _)
      fun h => ?_
    have hma' : (0 : ℝ) < ma := Nat.cast_pos.2 (Nat.pos_of_ne_zero h)
    rw [magReal_magScale, magReal]; positivity
  | sqrt ha hu =>
    obtain ⟨sa, ma, ea, hva, rfl⟩ := hasValue_iff.1 ha
    simp only [ieee754, fpSqrt, hva]
    have hsa (h : ma ≠ 0) : sa = false := by
      rw [← Bool.not_eq_true]
      exact fun hs => not_lt.2 hu (signedMant_mul_neg_iff.2 ⟨hs, h⟩)
    by_cases h0 : ma = 0
    · exact .inl fun mode => congrArg Prod.snd (if_pos h0)
    · simp only [hsa h0, Bool.false_eq_true, if_false]
      refine flagFree_or_fpRound (fun _ => rfl) (magSqrt_proper _ _) fun h => ?_
      have hma : (0 : ℝ) < ma := Nat.cast_pos.2 (Nat.pos_of_ne_zero h)
      rw [magReal_magSqrt]; positivity
  | fma ha hb hc =>
    obtain ⟨sa, ma, ea, hva, -⟩ := hasValue_iff.1 ha
    obtain ⟨sb, mb, eb, hvb, -⟩ := hasValue_iff.1 hb
    obtain ⟨sc, mc, ec, hvc, -⟩ := hasValue_iff.1 hc
    simp only [ieee754, fpFma, hva, hvb, hvc, Val.isNan, infTimesZero, valMul, Bool.or_self, Bool.false_eq_true,
      if_false]
    exact flagFreeOrRounded_valAdd F _ _ _ sc mc ec
  | fromInt n =>
    exact flagFree_or_fpRound (fun _ => rfl) (magOf_proper _ _) fun h => magReal_magOf_pos (Int.natAbs_ne_zero.2 h) _
  | narrow ha =>
    obtain ⟨sa, ma, ea, hva, -⟩ := hasValue_iff.1 ha
    simp only [ieee754, fpNarrow, hva]
    exact flagFree_or_fpRound (fun _ => rfl) (magOf_proper _ _) fun h => magReal_magOf_pos h _
  | widen ha =>
    obtain ⟨sa, ma, ea, hva, -⟩ := hasValue_iff.1 ha
    refine .inl fun _ => ?_
    change (fpWiden _).2 = flagNone
    rw [fpWiden_flags, hva]; rfl

/-- An exact result comes without a flag. Were it `fpRound` of another real, the two directed modes would have it on
both sides of that real. -/
theorem exact_or_rounded_of_exactResult {F : Fmt} {op : RoundingMode → BitVec F.width × FFlags} {q : ℝ}
    (h : ExactResult F op q) : (∀ mode, HasValue F (op mode).1 q ∧ (op mode).2 = flagNone) ∨
      ∃ neg m, m.Proper ∧ 0 < magReal m ∧ q = signReal neg * magReal m ∧ ∀ mode, op mode = fpRound F mode neg m := by
  obtain hexact | hround := roundsOnce_of_exactResult h
  · obtain hfree | ⟨neg, m, hp, h0, hround⟩ := flagFreeOrRounded_of_exactResult h
    · exact .inl fun mode => ⟨hexact mode, hfree mode⟩
    · have hdn := hexact .rdn
      have hup := hexact .rup
      rw [hround] at hdn hup
      exact .inr ⟨neg, m, hp, h0, le_antisymm (fpRound_rdn hp h0 hdn).1 (fpRound_rup hp h0 hup).1, hround⟩
  · exact .inr hround

/-- A value of the format does not overflow. -/
theorem HasValue.not_overflows {F : Fmt} {a : BitVec F.width} {v : ℝ} (h : HasValue F a v) (mode : RoundingMode) :
    ¬ Overflows F mode v := by
  have hmax := h.abs_le_largest
  obtain ⟨hlo, hhi⟩ := abs_le.1 hmax
  have hg : (0 : ℝ) < 2 ^ (F.emax - F.fracBits) := by positivity
  have hhalf : (2 : ℝ) ^ (F.emax - F.fracBits - 1) = 2 ^ (F.emax - F.fracBits) / 2 := zpow_sub_one₀ (by norm_num) _
  unfold largestReal at hmax hlo hhi
  cases mode with
  | rne | rmm => rw [Overflows, hhalf]; linarith
  | rtz => rw [Overflows]; linarith
  | rdn | rup => rw [Overflows, not_or]; constructor <;> linarith

theorem overflowBits_eq (F : Fmt) (mode : RoundingMode) (neg : Bool) :
    overflowBits F mode neg = fpOverflow F mode neg := by
  cases F <;> cases mode <;> cases neg <;> rfl

theorem signReal_mul_neg_iff {neg : Bool} {r : ℝ} (h0 : 0 < r) : signReal neg * r < 0 ↔ neg = true := by
  cases neg <;> simp [signReal, h0, h0.le]

/-- Settles O41: an exact result is a value of the format and sets no flag; for a rounded one, overflow and tininess are
whether its rounding reaches `2^(emax+1)` and stays below `2^emin`. -/
theorem overflowAndUnderflow : Obligations.OverflowAndUnderflow := by
  intro F op q hop mode
  obtain hexact | ⟨s, m, hp, h0, rfl, hround⟩ := exact_or_rounded_of_exactResult hop
  · obtain ⟨hv, hfl⟩ := hexact mode
    refine ⟨fun hov => absurd hov (hv.not_overflows mode), fun _ => ⟨q, hv, fun hq => ?_, fun _ => hfl,
      fun hne => absurd rfl hne, fun hne => absurd rfl hne⟩⟩
    obtain ⟨neg, n, e, hf, rfl⟩ := hasValue_iff.1 hv
    have hn : n ≠ 0 := by rintro rfl; simp [signedMant] at hq
    rw [signedMant_mul_neg_iff, (fpVal_eq_fin hf).1]
    exact (and_iff_left hn).symm
  · rw [hround, ← not_roundedReal_lt_iff hp h0, not_not]
    constructor
    · intro hov neg hneg
      rw [signReal_mul_neg_iff h0] at hneg
      rw [Bool.eq_iff_iff.2 hneg, fpRound_of_overflow hov, overflowBits_eq]; rfl
    · intro hlt
      obtain ⟨hv, hmsb⟩ := fpRound_fst_of_lt hp h0 hlt
      obtain ⟨hex, htiny, hnorm⟩ := fpRound_snd_cases hp h0 hlt
      have hs : signReal s ≠ 0 := by cases s <;> norm_num [signReal]
      have heq : signReal s * roundedReal F mode s m = signReal s * magReal m ↔ roundedReal F mode s m = magReal m :=
        mul_right_inj' hs
      refine ⟨_, hv, fun _ => by rw [hmsb, signReal_mul_neg_iff h0], ?_⟩
      rw [ne_eq, heq]
      exact ⟨hex, htiny, hnorm⟩

end Sys2Proof.Machine
end

section
/-! The flags that an instruction can set (R144): none, only NV, or only NX. The conversions of integers go by their
exact results: a 64-bit integer neither overflows nor is tiny, and a 32-bit one has fewer bits than a double. -/

namespace Sys2Proof.Machine

/-! ### The conversions of integers (R222) -/

theorem Overflows.two_zpow_le {F : Fmt} {mode : RoundingMode} {q : ℝ} (h : Overflows F mode q) :
    (2 : ℝ) ^ F.emax ≤ |q| := by
  have hE : (2 : ℝ) ^ (F.emax + 1) = 2 ^ F.emax + 2 ^ F.emax := by rw [zpow_add_one₀ (by norm_num), mul_two]
  have hg : (2 : ℝ) ^ (F.emax - F.fracBits) ≤ 2 ^ F.emax := zpow_le_zpow_right₀ (by norm_num) (by omega)
  have hg' : (2 : ℝ) ^ (F.emax - F.fracBits - 1) ≤ 2 ^ F.emax := zpow_le_zpow_right₀ (by norm_num) (by omega)
  have hp : (0 : ℝ) < 2 ^ F.emax := by positivity
  have h1 := le_abs_self q
  have h2 := neg_le_abs q
  cases mode with
  | rne | rmm => rw [Overflows] at h; linarith
  | rtz => rw [Overflows] at h; linarith
  | rdn | rup => obtain h | h := h <;> linarith

theorem Tiny.abs_lt_two_zpow {F : Fmt} {mode : RoundingMode} {q : ℝ} (h : Tiny F mode q) : |q| < (2 : ℝ) ^ F.emin := by
  have hg : (0 : ℝ) < 2 ^ (F.emin - F.fracBits - 1) := by positivity
  have hg' : (0 : ℝ) < 2 ^ (F.emin - F.fracBits - 2) := by positivity
  cases mode with
  | rne | rmm => rw [Tiny] at h; linarith
  | rtz => exact h
  | rdn | rup => obtain ⟨h1, h2⟩ := h; rw [abs_lt]; constructor <;> linarith

/-- R222: an integer of 64 bits is rounded without overflow or underflow. -/
theorem fpFromInt_flags_nx (F : Fmt) (mode : RoundingMode) {n : ℤ} (hn : |n| ≤ 2 ^ 64) :
    (fpFromInt F mode n).2 ||| flagNX = flagNX := by
  have hov : ¬ Overflows F mode n := by
    intro h
    have h1 : ((|n| : ℤ) : ℝ) ≤ (2 ^ 64 : ℤ) := Int.cast_le.2 hn
    have h2 : (2 : ℝ) ^ (65 : ℤ) ≤ 2 ^ F.emax := zpow_le_zpow_right₀ (by norm_num) (by cases F <;> decide)
    have h3 := h.two_zpow_le
    push_cast at h1
    norm_num at h2
    linarith
  have htiny (h0 : n ≠ 0) : ¬ Tiny F mode n := by
    intro h
    have h1 : (1 : ℝ) ≤ |(n : ℝ)| := by exact_mod_cast Int.one_le_abs h0
    have h2 : (2 : ℝ) ^ F.emin ≤ 2 ^ (0 : ℤ) := zpow_le_zpow_right₀ (by norm_num) (by cases F <;> decide)
    rw [zpow_zero] at h2
    linarith [h.abs_lt_two_zpow]
  by_cases h0 : n = 0
  · rw [fpFromInt, if_pos h0]; exact (by decide : flagNone ||| flagNX = flagNX)
  · obtain ⟨v, -, -, hexact, -, hinexact⟩ := (overflowAndUnderflow F _ n (.fromInt n) mode).2 hov
    by_cases hv : v = n
    · exact (congrArg (· ||| flagNX) (hexact hv)).trans rfl
    · exact (congrArg (· ||| flagNX) (hinexact hv (htiny h0))).trans rfl

/-- R131, R222: an integer of 32 bits is a double. -/
theorem fpFromInt_double_flags (mode : RoundingMode) {n : ℤ} (hn : |n| ≤ 2 ^ 32) :
    (fpFromInt .double mode n).2 = flagNone := by
  by_cases h0 : n = 0
  · rw [fpFromInt, if_pos h0]
  have hp := magOf_proper n.natAbs 0
  have hpos := magReal_magOf_pos (Int.natAbs_ne_zero.2 h0) 0
  have hr : magReal (magOf n.natAbs 0) = n.natAbs := by rw [magReal_magOf, zpow_zero, mul_one]
  have htop : magReal (magOf n.natAbs 0) < 2 ^ (33 : ℤ) := by
    rw [Int.abs_eq_natAbs] at hn
    have h1 : (n.natAbs : ℝ) ≤ (2 ^ 32 : ℕ) := Nat.cast_le.2 (by exact_mod_cast hn)
    rw [hr]; norm_num at h1 ⊢; linarith
  have hlog := two_zpow_lt_iff.1 ((magLog2_isLog2 hp hpos).1.trans_lt htop)
  have hulp : ulpExp .double (magLog2 (magOf n.natAbs 0)) ≤ 0 := by
    simp only [ulpExp, Fmt.emin, Fmt.fracBits]; omega
  rw [fpFromInt, if_neg h0, fpRoundInt,
    fpRound_of_count (j := n.natAbs * 2 ^ (-ulpExp .double (magLog2 (magOf n.natAbs 0))).toNat) hp hpos]
  · push_cast
    rw [zpow_toNat (by omega), mul_assoc, ← zpow_add₀ (by norm_num), neg_add_cancel, zpow_zero, mul_one, hr]
  · exact htop.trans_le (zpow_le_zpow_right₀ (by norm_num) (by decide))

theorem abs_toInt_le {w : ℕ} (v : BitVec w) : |v.toInt| ≤ 2 ^ w := by
  have h1 := BitVec.two_mul_toInt_lt (x := v)
  have h2 := BitVec.le_two_mul_toInt (x := v)
  rw [abs_le]; constructor <;> omega

theorem abs_toNat_le {w : ℕ} (v : BitVec w) : |(v.toNat : ℤ)| ≤ 2 ^ w := by
  have h := v.isLt
  rw [Nat.abs_cast]; exact_mod_cast h.le

/-! ### The instructions (R144) -/

/-- An instruction whose operation gives no flag outside the mask leaves the flags outside the mask alone. -/
theorem flags_or_mask {i : Instr} {s t : State} {mask : FFlags} (h : exec i s = .next t)
    (hcsr : ∀ rd rs1 n, i ≠ .csrrw rd rs1 n ∧ i ≠ .csrrs rd rs1 n)
    (hmask : ∀ mode, raisedFlags s mode i ||| mask = mask) :
    fcsrFlags t.fcsr ||| mask = fcsrFlags s.fcsr ||| mask := by
  obtain hsame | ⟨mode, hacc⟩ := exec_raises h hcsr
  · rw [hsame]
  · rw [hacc, BitVec.or_assoc, hmask mode]

theorem flagIf_NV_or (b : Bool) : flagIf b flagNV ||| flagNV = flagNV := by cases b <;> rfl

/-- Settles O55: an exception changes no flag, and the operations of the three lists give none, only NV, or only NX. -/
theorem flagsAnInstructionCanSet : Obligations.FlagsAnInstructionCanSet := by
  intro i s t rd rs1 rs2 imm rm h
  simp only [List.mem_cons, List.not_mem_nil, or_false]
  refine ⟨fun hi => ?_, fun hi => ?_, fun hnum hi => ?_⟩
  · have hnone : (∀ rd rs1 n, i ≠ .csrrw rd rs1 n ∧ i ≠ .csrrs rd rs1 n) ∧
        ∀ mode, raisedFlags s mode i = flagNone := by
      obtain hi | ⟨hnum, hi⟩ := hi
      · rcases hi with rfl | rfl | rfl | rfl | rfl | rfl | rfl | rfl | rfl | rfl | rfl | rfl | rfl | rfl | rfl | rfl <;>
          exact ⟨fun _ _ _ => ⟨nofun, nofun⟩, fun _ => rfl⟩
      · have hn := numericsOf_ieee754 hnum
        rcases hi with rfl | rfl <;>
          refine ⟨fun _ _ _ => ⟨nofun, nofun⟩, fun mode => ?_⟩ <;> simp only [raisedFlags, hn]
        · exact fpFromInt_double_flags mode (abs_toInt_le _)
        · exact fpFromInt_double_flags mode (abs_toNat_le _)
    have := flags_or_mask (mask := 0) h hnone.1 fun mode => by rw [hnone.2]; rfl
    simpa using this
  · have hnv : (∀ rd rs1 n, i ≠ .csrrw rd rs1 n ∧ i ≠ .csrrs rd rs1 n) ∧
        ∀ mode, ∃ b, raisedFlags s mode i = flagIf b flagNV := by
      obtain hi | ⟨hnum, rfl⟩ := hi
      · rcases hi with rfl | rfl | rfl | rfl | rfl | rfl | rfl | rfl | rfl | rfl <;>
          refine ⟨fun _ _ _ => ⟨nofun, nofun⟩, fun _ => ?_⟩
        iterate 6 exact fpCompare_flags _ _ _ _
        iterate 4 exact ⟨_, fpMinMax_flags _ _ _ _⟩
      · refine ⟨fun _ _ _ => ⟨nofun, nofun⟩, fun _ => ⟨(fpVal .single (readFS s rs1)).isSignaling, ?_⟩⟩
        simp only [raisedFlags, numericsOf_ieee754 hnum]
        exact fpWiden_flags _
    refine flags_or_mask h hnv.1 fun mode => ?_
    obtain ⟨b, hb⟩ := hnv.2 mode
    rw [hb]; exact flagIf_NV_or b
  · have hn := numericsOf_ieee754 hnum
    rcases hi with rfl | rfl | rfl | rfl | rfl | rfl <;>
      refine flags_or_mask h (fun _ _ _ => ⟨nofun, nofun⟩) fun mode => ?_ <;> simp only [raisedFlags, hn]
    · exact fpFromInt_flags_nx .single mode ((abs_toInt_le _).trans (by norm_num))
    · exact fpFromInt_flags_nx .single mode ((abs_toNat_le _).trans (by norm_num))
    · exact fpFromInt_flags_nx .single mode (abs_toInt_le _)
    · exact fpFromInt_flags_nx .single mode (abs_toNat_le _)
    · exact fpFromInt_flags_nx .double mode (abs_toInt_le _)
    · exact fpFromInt_flags_nx .double mode (abs_toNat_le _)

end Sys2Proof.Machine
end

section
/-! The order of the values (R148), the compares (R200), and minimum and maximum (R186). -/

namespace Sys2Proof.Machine

/-! ### The order of the values (R148) -/

theorem Val.isSignaling_iff {x : Val} : x.isSignaling = true ↔ x = .nan true := by
  cases x <;> simp [Val.isSignaling]

theorem Val.exists_fin {x : Val} (h : x.isFinite = true) : ∃ neg n e, x = .fin neg n e := by
  cases x with
  | nan s => cases h
  | inf s => cases h
  | fin neg n e => exact ⟨neg, n, e, rfl⟩

theorem Val.isNan_of_isFinite {x : Val} (h : x.isFinite = true) : x.isNan = false := by
  obtain ⟨neg, n, e, rfl⟩ := exists_fin h; rfl

/-- The integer by which two finite values are compared has the sign of their difference. -/
theorem alignedSum_neg_cast (sa : Bool) (ma : ℕ) (ea : ℤ) (sb : Bool) (mb : ℕ) (eb : ℤ) :
    ((alignedSum (signedMant sa ma) ea (-(signedMant sb mb)) eb : ℤ) : ℝ) * 2 ^ min ea eb =
      ((Val.fin sa ma ea).toRat : ℝ) - ((Val.fin sb mb eb).toRat : ℝ) := by
  rw [alignedSum_cast, toRat_fin, toRat_fin]; push_cast; ring

theorem valLt_of_finite {x y : Val} (hx : x.isFinite = true) (hy : y.isFinite = true) :
    valLt x y = decide (x.toRat < y.toRat) := by
  obtain ⟨sa, ma, ea, rfl⟩ := Val.exists_fin hx
  obtain ⟨sb, mb, eb, rfl⟩ := Val.exists_fin hy
  have hpos : (0 : ℝ) < 2 ^ min ea eb := by positivity
  refine decide_eq_decide.2 ?_
  rw [← Int.cast_lt_zero (R := ℝ), ← not_le, ← mul_nonneg_iff_of_pos_right hpos, alignedSum_neg_cast, not_le, sub_neg,
    Rat.cast_lt]

theorem valEq_of_finite {x y : Val} (hx : x.isFinite = true) (hy : y.isFinite = true) :
    valEq x y = decide (x.toRat = y.toRat) := by
  obtain ⟨sa, ma, ea, rfl⟩ := Val.exists_fin hx
  obtain ⟨sb, mb, eb, rfl⟩ := Val.exists_fin hy
  have hne : (2 : ℝ) ^ min ea eb ≠ 0 := by positivity
  refine decide_eq_decide.2 ?_
  rw [← Int.cast_eq_zero (α := ℝ), ← mul_left_inj' hne, zero_mul, alignedSum_neg_cast, sub_eq_zero, Rat.cast_inj]

theorem valLt_irrefl (x : Val) : valLt x x = false := by
  cases x with
  | nan s => rfl
  | inf s => cases s <;> rfl
  | fin neg n e => rw [valLt_of_finite rfl rfl, decide_eq_false (lt_irrefl _)]

theorem valLt_asymm {x y : Val} (h : valLt x y = true) : valLt y x = false := by
  cases x <;> cases y
  case fin.fin =>
    rw [valLt_of_finite rfl rfl, decide_eq_true_eq] at h
    rw [valLt_of_finite rfl rfl, decide_eq_false h.asymm]
  all_goals simp_all [valLt]

/-- Values that are equal in the order, the two zeros among them, are not below one another. -/
theorem valLt_of_valEq {x y : Val} (h : valEq x y = true) : valLt x y = false := by
  cases x <;> cases y
  case fin.fin =>
    rw [valEq_of_finite rfl rfl, decide_eq_true_eq] at h
    rw [valLt_of_finite rfl rfl, decide_eq_false h.not_lt]
  all_goals simp_all [valLt, valEq]

theorem valEq_symm {x y : Val} (h : valEq x y = true) : valEq y x = true := by
  cases x <;> cases y
  case fin.fin =>
    rw [valEq_of_finite rfl rfl, decide_eq_true_eq] at h ⊢
    exact h.symm
  all_goals simp_all [valEq]

/-! ### The compares (R200) -/

/-- The relation of a compare on two values. -/
def valRel : Rel → Val → Val → Bool
  | .eq, x, y => valEq x y
  | .lt, x, y => valLt x y
  | .le, x, y => valLt x y || valEq x y

section compare
variable {F : Fmt} {a b : BitVec F.width}

theorem fpCompare_of_not_nan (ha : (fpVal F a).isNan = false) (hb : (fpVal F b).isNan = false) (rel : Rel) :
    fpCompare F rel a b = (valRel rel (fpVal F a) (fpVal F b), flagNone) := by
  simp only [fpCompare, ha, hb, Bool.or_self, Bool.false_eq_true, if_false]
  cases rel <;> rfl

theorem signaling_flags (x y : Val) : flagIf (x.isSignaling || y.isSignaling) flagNV =
    if x = .nan true ∨ y = .nan true then 0x10 else 0x00 := by
  simp only [flagIf, Bool.or_eq_true, Val.isSignaling_iff]; rfl

/-- R141 (a), (b): a compare of a NaN is false, and equality is quiet. -/
theorem fpCompare_of_nan (h : (fpVal F a).isNan = true ∨ (fpVal F b).isNan = true) :
    fpCompare F .eq a b = (false, if fpVal F a = .nan true ∨ fpVal F b = .nan true then 0x10 else 0x00) ∧
      fpCompare F .lt a b = (false, 0x10) ∧ fpCompare F .le a b = (false, 0x10) := by
  have h' : ((fpVal F a).isNan || (fpVal F b).isNan) = true := (Bool.or_eq_true _ _).mpr h
  simp only [fpCompare, h', if_true, signaling_flags]
  exact ⟨trivial, rfl, rfl⟩

end compare

/-- Settles O43: on finite values the order is that of the rationals; the infinities are at its ends. -/
theorem compareOrder : Obligations.CompareOrder := by
  intro F a b
  refine ⟨fpCompare_of_nan, fun ha hb rel => ?_, fun ha hb => ?_, fun sa sb ha hb => ?_, fun sa ha hb => ?_,
    fun sb ha hb => ?_⟩
  · rw [fpCompare_of_not_nan ha hb]; rfl
  · simp only [fpCompare_of_not_nan (Val.isNan_of_isFinite ha) (Val.isNan_of_isFinite hb), valRel,
      valEq_of_finite ha hb, valLt_of_finite ha hb, ← Bool.decide_or, le_iff_lt_or_eq, and_self]
  · have hna : (fpVal F a).isNan = false := by rw [ha]; rfl
    have hnb : (fpVal F b).isNan = false := by rw [hb]; rfl
    simp only [fpCompare_of_not_nan hna hnb, valRel, ha, hb, valEq, valLt]
    cases sa <;> cases sb <;> decide
  · have hna : (fpVal F a).isNan = false := by rw [ha]; rfl
    obtain ⟨neg, n, e, hv⟩ := Val.exists_fin hb
    simp only [fpCompare_of_not_nan hna (Val.isNan_of_isFinite hb), valRel, ha, hv, valEq, valLt,
      Bool.or_false, and_self]
  · have hnb : (fpVal F b).isNan = false := by rw [hb]; rfl
    obtain ⟨neg, n, e, hv⟩ := Val.exists_fin ha
    simp only [fpCompare_of_not_nan (Val.isNan_of_isFinite ha) hnb, valRel, hb, hv, valEq, valLt,
      Bool.or_false, and_self]

/-! ### Minimum and maximum (R186) -/

theorem zeroBits_eq (F : Fmt) (neg : Bool) : zeroBits F neg = fpZero F neg := by cases F <;> cases neg <;> rfl

theorem nanBits_eq (F : Fmt) : nanBits F = fpNan F := by cases F <;> rfl

theorem msb_fpZero (F : Fmt) (neg : Bool) : (fpZero F neg).msb = neg :=
  msb_fpPack (Nat.two_pow_pos _) (Nat.two_pow_pos _)

/-- The value `x` is better than `y`: above it for the maximum, below it for the minimum. -/
def valBetter (isMax : Bool) (x y : Val) : Bool := if isMax then valLt y x else valLt x y

theorem valBetter_irrefl (isMax : Bool) (x : Val) : valBetter isMax x x = false := by
  unfold valBetter; split <;> exact valLt_irrefl x

theorem valBetter_asymm {isMax : Bool} {x y : Val} (h : valBetter isMax x y = true) : valBetter isMax y x = false := by
  cases isMax with
  | false => exact valLt_asymm h
  | true => exact valLt_asymm h

theorem valBetter_of_valEq {isMax : Bool} {x y : Val} (h : valEq x y = true) :
    valBetter isMax x y = false ∧ valBetter isMax y x = false := by
  unfold valBetter
  rw [valLt_of_valEq h, valLt_of_valEq (valEq_symm h), ite_self]
  exact ⟨rfl, rfl⟩

section minmax
variable {F : Fmt} {a b : BitVec F.width}

/-- R186: of two operands that are not NaN. -/
theorem fpMinMax_of_not_nan (ha : (fpVal F a).isNan = false) (hb : (fpVal F b).isNan = false) (isMax : Bool) :
    (fpMinMax F isMax a b).1 = if valEq (fpVal F a) (fpVal F b) && a.msb != b.msb then if a.msb == isMax then b else a
      else if valBetter isMax (fpVal F a) (fpVal F b) then a else b := by
  simp only [fpMinMax, ha, hb, Bool.and_self, Bool.false_eq_true, if_false]
  cases isMax <;> simp only [valBetter, Bool.false_eq_true, if_true, if_false, apply_ite Prod.fst]

/-- R186: neither operand is better than the result. -/
theorem fpMinMax_best (ha : (fpVal F a).isNan = false) (hb : (fpVal F b).isNan = false) (isMax : Bool) :
    valBetter isMax (fpVal F a) (fpVal F (fpMinMax F isMax a b).1) = false ∧
      valBetter isMax (fpVal F b) (fpVal F (fpMinMax F isMax a b).1) = false := by
  rw [fpMinMax_of_not_nan ha hb]
  split
  · next h =>
    obtain ⟨h1, h2⟩ := valBetter_of_valEq (isMax := isMax) ((Bool.and_eq_true _ _).mp h).1
    split
    · exact ⟨h1, valBetter_irrefl isMax _⟩
    · exact ⟨valBetter_irrefl isMax _, h2⟩
  · split
    · next h => exact ⟨valBetter_irrefl isMax _, valBetter_asymm h⟩
    · next h => exact ⟨Bool.eq_false_iff.2 h, valBetter_irrefl isMax _⟩

/-- R186: minus zero is below plus zero. -/
theorem fpMinMax_zeros (isMax sa : Bool) (ha : a = fpZero F sa) (hb : b = fpZero F (!sa)) :
    (fpMinMax F isMax a b).1 = fpZero F (!isMax) := by
  have hva : fpVal F a = .fin sa 0 (F.emin - F.fracBits) := ha ▸ fpVal_fpZero F sa
  have hvb : fpVal F b = .fin (!sa) 0 (F.emin - F.fracBits) := hb ▸ fpVal_fpZero F (!sa)
  have hma : a.msb = sa := ha ▸ msb_fpZero F sa
  have hmb : b.msb = !sa := hb ▸ msb_fpZero F (!sa)
  have heq : valEq (fpVal F a) (fpVal F b) = true := by
    rw [hva, hvb, valEq_of_finite rfl rfl]; simp [Val.toRat]
  rw [fpMinMax_of_not_nan (by rw [hva]; rfl) (by rw [hvb]; rfl), heq, hma, hmb, ha, hb]
  cases sa <;> cases isMax <;> rfl

end minmax

/-- Settles O44: the branches of `minmax` one by one; the order is irreflexive and asymmetric, and equal values are not
below one another. -/
theorem minMaxPicksAnOperand : Obligations.MinMaxPicksAnOperand := by
  rintro F isMax a b _ rfl
  refine ⟨(fpMinMax_flags F a b isMax).trans (signaling_flags _ _), fun ha hb => ⟨?_, ?_, ?_, ?_, ?_⟩, fun ha hb => ?_,
    fun ha hb => ?_, fun ha hb => ?_⟩
  · rw [fpMinMax_of_not_nan ha hb]
    split_ifs <;> simp
  · rintro rfl; exact fpMinMax_best ha hb false
  · rintro rfl; exact fpMinMax_best ha hb true
  · rw [zeroBits_eq, zeroBits_eq, zeroBits_eq]
    exact fpMinMax_zeros isMax true
  · rw [zeroBits_eq, zeroBits_eq, zeroBits_eq]
    exact fpMinMax_zeros isMax false
  · simp [fpMinMax, ha, hb]
  · simp [fpMinMax, ha, hb]
  · simp [fpMinMax, ha, hb, nanBits_eq]

end Sys2Proof.Machine
end

section
/-! The operations on NaNs, infinities and zeros (R133, R141, R142, R145 to R147), row by row. -/

namespace Sys2Proof.Machine

/-! ### NaN operands (R133, R145) -/

/-- The value with its sign flipped; a NaN has none. -/
def Val.negate : Val → Val
  | .nan sg => .nan sg
  | .inf neg => .inf (!neg)
  | .fin neg n e => .fin (!neg) n e

/-- R132, R192: flipping the sign bit flips the sign of the value. -/
theorem fpVal_fpNeg_eq (F : Fmt) (b : BitVec F.width) : fpVal F (fpNeg F b) = (fpVal F b).negate := by
  simp only [fpVal, fpExp_congr (fpNeg_low F b), fpFrac_congr (fpNeg_low F b), fpNeg_msb]
  split_ifs <;> rfl

@[simp] theorem Val.isNan_negate (x : Val) : x.negate.isNan = x.isNan := by cases x <;> rfl

@[simp] theorem Val.isSignaling_negate (x : Val) : x.negate.isSignaling = x.isSignaling := by cases x <;> rfl

theorem Val.eq_nan_of_isNan {x : Val} (h : x.isNan = true) : x = .nan x.isSignaling := by
  cases x with
  | nan sg => rfl
  | inf s => cases h
  | fin neg n e => cases h

section nan
variable {F : Fmt} {mode : RoundingMode} {a b c : BitVec F.width}

theorem valAdd_of_nan {x y : Val} (h : x.isNan = true ∨ y.isNan = true) :
    valAdd F mode x y = fpNanResult F (x.isSignaling || y.isSignaling) := by
  obtain h | h := h <;> rw [Val.eq_nan_of_isNan h]
  · rfl
  · cases x <;> rfl

theorem fpMul_of_nan (h : (fpVal F a).isNan = true ∨ (fpVal F b).isNan = true) :
    fpMul F mode a b = fpNanResult F ((fpVal F a).isSignaling || (fpVal F b).isSignaling) := by
  unfold fpMul
  generalize fpVal F a = x at *
  generalize fpVal F b = y at *
  obtain h | h := h <;> rw [Val.eq_nan_of_isNan h]
  · rfl
  · cases x <;> rfl

theorem fpDiv_of_nan (h : (fpVal F a).isNan = true ∨ (fpVal F b).isNan = true) :
    fpDiv F mode a b = fpNanResult F ((fpVal F a).isSignaling || (fpVal F b).isSignaling) := by
  unfold fpDiv
  generalize fpVal F a = x at *
  generalize fpVal F b = y at *
  obtain h | h := h <;> rw [Val.eq_nan_of_isNan h]
  · rfl
  · cases x <;> rfl

theorem fpSqrt_of_nan (h : (fpVal F a).isNan = true) : fpSqrt F mode a = fpNanResult F (fpVal F a).isSignaling := by
  rw [fpSqrt, Val.eq_nan_of_isNan h]; rfl

theorem fpFma_of_nan (h : (fpVal F a).isNan = true ∨ (fpVal F b).isNan = true ∨ (fpVal F c).isNan = true) :
    fpFma F mode a b c = fpNanResult F ((fpVal F a).isSignaling || (fpVal F b).isSignaling ||
      (fpVal F c).isSignaling || infTimesZero (fpVal F a) (fpVal F b)) := by
  have h' : ((fpVal F a).isNan || (fpVal F b).isNan || (fpVal F c).isNan) = true := by
    simpa only [Bool.or_eq_true, or_assoc] using h
  exact if_pos h'

end nan

/-- Settles O45: each operation begins with the NaN operands; a difference is the sum with the sign bit of the
subtrahend flipped, which keeps a NaN. -/
theorem nanOperandsGiveTheCanonicalNan : Obligations.NanOperandsGiveTheCanonicalNan := by
  refine ⟨fun F mode a b c => ⟨?_, fun h => ?_, fun h => ?_⟩, fun mode a h => ?_, fun a h => ?_⟩
  · rintro h _ rfl
    rw [nanBits_eq]
    refine ⟨valAdd_of_nan h, (valAdd_of_nan ?_).trans ?_, fpMul_of_nan h, fpDiv_of_nan h⟩
    · rwa [fpVal_fpNeg_eq, Val.isNan_negate]
    · rw [fpVal_fpNeg_eq, Val.isSignaling_negate]; rfl
  · rw [nanBits_eq]; exact fpSqrt_of_nan h
  · rw [nanBits_eq]; exact fpFma_of_nan h
  · rw [nanBits_eq]
    change fpNarrow mode a = _
    rw [fpNarrow, Val.eq_nan_of_isNan h]; rfl
  · rw [nanBits_eq]
    change fpWiden a = _
    rw [fpWiden, Val.eq_nan_of_isNan h]; rfl

/-! ### Infinities and zeros (R132) -/

theorem fpInvalid_eq (F : Fmt) : fpInvalid F = (nanBits F, 0x10) := by rw [nanBits_eq]; rfl

theorem fpVal_infBits (F : Fmt) (neg : Bool) : fpVal F (infBits F neg) = .inf neg := by
  rw [infBits_eq, fpVal_fpInf]

theorem fpVal_zeroBits (F : Fmt) (neg : Bool) : fpVal F (zeroBits F neg) = .fin neg 0 (F.emin - F.fracBits) := by
  rw [zeroBits_eq, fpVal_fpZero]

/-- R132: an infinity has one pattern. -/
theorem eq_infBits_of_fpVal {F : Fmt} {b : BitVec F.width} {neg : Bool} (h : fpVal F b = .inf neg) :
    b = infBits F neg := by
  rw [infBits_eq, ← fpPack_fields F b]
  simp only [fpVal] at h
  split_ifs at h with hE hT
  cases h
  rw [hE, hT]; rfl

/-- A finite pattern, by its sign bit, and when its value is zero or negative. -/
theorem HasValue.exists_fin {F : Fmt} {a : BitVec F.width} {v : ℝ} (h : HasValue F a v) :
    ∃ n e, fpVal F a = .fin a.msb n e ∧ v = (signedMant a.msb n : ℤ) * 2 ^ e ∧ (v = 0 ↔ n = 0) := by
  obtain ⟨neg, n, e, hv, rfl⟩ := hasValue_iff.1 h
  rw [(fpVal_eq_fin hv).1]
  refine ⟨n, e, hv, rfl, ?_⟩
  have he : (2 : ℝ) ^ e ≠ 0 := by positivity
  rw [mul_eq_zero, or_iff_left he, Int.cast_eq_zero]
  cases neg <;> simp [signedMant]

theorem zeroSumNeg_eq (mode : RoundingMode) : zeroSumNeg mode = decide (mode = .rdn) := by cases mode <;> rfl

/-- R146: an exact zero sum. -/
theorem valAdd_of_sum_zero {F : Fmt} {mode : RoundingMode} {sa sb : Bool} {ma mb : ℕ} {ea eb : ℤ}
    (h : ((signedMant sa ma : ℤ) : ℝ) * 2 ^ ea + (signedMant sb mb : ℤ) * 2 ^ eb = 0) :
    valAdd F mode (.fin sa ma ea) (.fin sb mb eb) =
      (zeroBits F (if ma = 0 ∧ mb = 0 ∧ sa = sb then sa else decide (mode = .rdn)), 0) := by
  have hne : (2 : ℝ) ^ min ea eb ≠ 0 := by positivity
  have hz : alignedSum (signedMant sa ma) ea (signedMant sb mb) eb = 0 := by
    rw [← alignedSum_cast, mul_eq_zero, or_iff_left hne, Int.cast_eq_zero] at h
    exact h
  rw [zeroBits_eq]
  simp only [valAdd, if_pos hz, ← zeroSumNeg_eq]
  split <;> rfl

/-! ### The rows of R146 and R147 -/

section rows
variable {F : Fmt} {mode : RoundingMode} {a b c : BitVec F.width} {sa sb : Bool} {u v w : ℝ}

theorem fpAdd_inf_inf : fpAdd F mode (infBits F sa) (infBits F sb) =
    if sa = sb then (infBits F sa, 0) else (nanBits F, 0x10) := by
  simp only [fpAdd, fpVal_infBits, valAdd, ← infBits_eq, fpInvalid_eq]; rfl

theorem fpAdd_inf_fin (hb : HasValue F b v) : fpAdd F mode (infBits F sa) b = (infBits F sa, 0) ∧
    fpAdd F mode b (infBits F sa) = (infBits F sa, 0) := by
  obtain ⟨n, e, hvb, -, -⟩ := hb.exists_fin
  simp only [fpAdd, fpVal_infBits, hvb, valAdd, ← infBits_eq]
  exact ⟨rfl, rfl⟩

theorem fpAdd_zero_zero : fpAdd F mode (zeroBits F sa) (zeroBits F sb) =
    (zeroBits F (if sa = sb then sa else decide (mode = .rdn)), 0) := by
  rw [fpAdd, fpVal_zeroBits, fpVal_zeroBits, valAdd_of_sum_zero (by cases sa <;> cases sb <;> simp [signedMant])]
  simp only [true_and]

theorem fpAdd_cancel (ha : HasValue F a u) (hb : HasValue F b v) (hu : u ≠ 0) (h : u + v = 0) :
    fpAdd F mode a b = (zeroBits F (decide (mode = .rdn)), 0) := by
  obtain ⟨n, e, hva, rfl, hn⟩ := ha.exists_fin
  obtain ⟨n', e', hvb, rfl, -⟩ := hb.exists_fin
  rw [fpAdd, hva, hvb, valAdd_of_sum_zero h, if_neg fun hz => hu (hn.2 hz.1)]

theorem fpSub_eq : fpSub F mode a b = fpAdd F mode a (b ^^^ signBit F) := by
  have hs : signMask F = signBit F := by cases F <;> rfl
  rw [fpSub, fpNeg, hs]

theorem fpMul_inf_inf : fpMul F mode (infBits F sa) (infBits F sb) = (infBits F (sa ^^ sb), 0) := by
  simp only [fpMul, fpVal_infBits, ← infBits_eq]; rfl

theorem fpMul_inf_fin (hb : HasValue F b v) (hv : v ≠ 0) :
    fpMul F mode (infBits F sa) b = (infBits F (sa ^^ b.msb), 0) ∧
      fpMul F mode b (infBits F sa) = (infBits F (sa ^^ b.msb), 0) := by
  obtain ⟨n, e, hvb, -, hn⟩ := hb.exists_fin
  simp only [fpMul, fpVal_infBits, hvb, if_neg (mt hn.2 hv), ← infBits_eq, Bool.xor_comm b.msb]
  exact ⟨rfl, rfl⟩

theorem fpMul_inf_zero : fpMul F mode (infBits F sa) (zeroBits F sb) = (nanBits F, 0x10) := by
  simp only [fpMul, fpVal_infBits, fpVal_zeroBits, if_true, fpInvalid_eq]

theorem fpMul_zero_inf : fpMul F mode (zeroBits F sb) (infBits F sa) = (nanBits F, 0x10) := by
  simp only [fpMul, fpVal_infBits, fpVal_zeroBits, if_true, fpInvalid_eq]

theorem fpMul_zero_fin (hb : HasValue F b v) : fpMul F mode (zeroBits F sa) b = (zeroBits F (sa ^^ b.msb), 0) ∧
    fpMul F mode b (zeroBits F sa) = (zeroBits F (sa ^^ b.msb), 0) := by
  obtain ⟨n, e, hvb, -, -⟩ := hb.exists_fin
  simp only [fpMul, fpVal_zeroBits, hvb, true_or, or_true, if_true, ← zeroBits_eq, Bool.xor_comm b.msb]
  exact ⟨rfl, rfl⟩

theorem fpDiv_inf_inf : fpDiv F mode (infBits F sa) (infBits F sb) = (nanBits F, 0x10) := by
  simp only [fpDiv, fpVal_infBits, fpInvalid_eq]

theorem fpDiv_zero_zero : fpDiv F mode (zeroBits F sa) (zeroBits F sb) = (nanBits F, 0x10) := by
  simp only [fpDiv, fpVal_zeroBits, if_true, fpInvalid_eq]

theorem fpDiv_inf_fin (hb : HasValue F b v) : fpDiv F mode (infBits F sa) b = (infBits F (sa ^^ b.msb), 0) ∧
    fpDiv F mode b (infBits F sa) = (zeroBits F (sa ^^ b.msb), 0) := by
  obtain ⟨n, e, hvb, -, -⟩ := hb.exists_fin
  simp only [fpDiv, fpVal_infBits, hvb, ← infBits_eq, ← zeroBits_eq, Bool.xor_comm b.msb]
  exact ⟨rfl, rfl⟩

theorem fpDiv_fin_zero (hb : HasValue F b v) (hv : v ≠ 0) :
    fpDiv F mode b (zeroBits F sa) = (infBits F (sa ^^ b.msb), 0x08) ∧
      fpDiv F mode (zeroBits F sa) b = (zeroBits F (sa ^^ b.msb), 0) := by
  obtain ⟨n, e, hvb, -, hn⟩ := hb.exists_fin
  constructor
  · rw [fpDiv_by_zero mode hvb (mt hn.2 hv) (fpVal_zeroBits F sa), Bool.xor_comm]
  · simp only [fpDiv, fpVal_zeroBits, hvb, if_neg (mt hn.2 hv), if_true, ← zeroBits_eq]; rfl

theorem fpSqrt_inf : fpSqrt F mode (infBits F false) = (infBits F false, 0) ∧
    fpSqrt F mode (infBits F true) = (nanBits F, 0x10) := by
  simp only [fpSqrt, fpVal_infBits, ← infBits_eq, fpInvalid_eq, Bool.false_eq_true, if_true,
    if_false]
  exact ⟨rfl, trivial⟩

theorem fpSqrt_zero : fpSqrt F mode (zeroBits F sa) = (zeroBits F sa, 0) := by
  simp only [fpSqrt, fpVal_zeroBits, if_true, ← zeroBits_eq]; rfl

theorem fpSqrt_neg (ha : HasValue F a u) (hu : u < 0) : fpSqrt F mode a = (nanBits F, 0x10) := by
  obtain ⟨n, e, hva, rfl, -⟩ := ha.exists_fin
  obtain ⟨hneg, hn⟩ := signedMant_mul_neg_iff.1 hu
  simp only [fpSqrt, hva, if_neg hn, hneg, if_true, fpInvalid_eq]

/-! ### The fused operation (R147) -/

theorem fpFma_of_invalid (h : infTimesZero (fpVal F a) (fpVal F b) = true) :
    fpFma F mode a b c = (nanBits F, 0x10) := by
  rw [nanBits_eq]
  simp only [fpFma, h, Bool.or_true, if_true]
  split <;> rfl

theorem fpFma_of_valid (ha : (fpVal F a).isNan = false) (hb : (fpVal F b).isNan = false)
    (hc : (fpVal F c).isNan = false) (h : infTimesZero (fpVal F a) (fpVal F b) = false) :
    fpFma F mode a b c = valAdd F mode (valMul (fpVal F a) (fpVal F b)) (fpVal F c) := by
  simp only [fpFma, ha, hb, hc, h, Bool.or_self, Bool.false_eq_true, if_false]

theorem fpFma_fin {ma mb : ℕ} {ea eb : ℤ} (ha : fpVal F a = .fin sa ma ea) (hb : fpVal F b = .fin sb mb eb)
    (hc : (fpVal F c).isNan = false) :
    fpFma F mode a b c = valAdd F mode (.fin (sa ^^ sb) (ma * mb) (ea + eb)) (fpVal F c) := by
  rw [fpFma_of_valid (by rw [ha]; rfl) (by rw [hb]; rfl) hc (by rw [ha, hb]; rfl), ha, hb]; rfl

theorem fpFma_inf_zero : fpFma F mode (infBits F sa) (zeroBits F sb) c = (nanBits F, 0x10) ∧
    fpFma F mode (zeroBits F sb) (infBits F sa) c = (nanBits F, 0x10) :=
  ⟨fpFma_of_invalid (by rw [fpVal_infBits, fpVal_zeroBits]; rfl),
    fpFma_of_invalid (by rw [fpVal_infBits, fpVal_zeroBits]; rfl)⟩

/-- An infinite product and an addend. -/
theorem valAdd_inf_left (s : Bool) (hc : (fpVal F c).isNan = false) : valAdd F mode (.inf s) (fpVal F c) =
    if c = infBits F (!s) then (nanBits F, 0x10) else (infBits F s, 0) := by
  cases hv : fpVal F c with
  | nan sg => rw [hv] at hc; cases hc
  | fin neg n e =>
    have hne : c ≠ infBits F (!s) := by rintro rfl; rw [fpVal_infBits] at hv; cases hv
    rw [if_neg hne, infBits_eq]; rfl
  | inf t =>
    obtain rfl := eq_infBits_of_fpVal hv
    have hiff : infBits F t = infBits F (!s) ↔ ¬ s = t := by
      constructor
      · intro h
        have h' := congrArg (fpVal F) h
        rw [fpVal_infBits, fpVal_infBits] at h'
        cases h'; simp
      · intro h; rw [Bool.eq_not_of_ne (Ne.symm h)]
    rw [nanBits_eq, infBits_eq F s]
    simp only [valAdd, hiff, ite_not]; rfl

/-- An operand that is an infinity, or finite and not zero, times an infinity. -/
theorem infinite_product (hb : b = infBits F b.msb ∨ (HasValue F b v ∧ v ≠ 0)) : (fpVal F b).isNan = false ∧
    (infTimesZero (.inf sa) (fpVal F b) = false ∧ valMul (.inf sa) (fpVal F b) = .inf (sa ^^ b.msb)) ∧
    (infTimesZero (fpVal F b) (.inf sa) = false ∧ valMul (fpVal F b) (.inf sa) = .inf (sa ^^ b.msb)) := by
  have hcomm : Val.inf (b.msb ^^ sa) = .inf (sa ^^ b.msb) := congrArg Val.inf (Bool.xor_comm _ _)
  obtain h | ⟨h, hv⟩ := hb
  · have hvb : fpVal F b = .inf b.msb := by rw [h, fpVal_infBits, ← h]
    rw [hvb]
    exact ⟨rfl, ⟨rfl, rfl⟩, rfl, hcomm⟩
  · obtain ⟨n, e, hvb, -, hn⟩ := h.exists_fin
    have hn0 : (n == 0) = false := beq_false_of_ne (mt hn.2 hv)
    rw [hvb]
    exact ⟨rfl, ⟨hn0, rfl⟩, hn0, hcomm⟩

theorem fpFma_inf_product (hb : b = infBits F b.msb ∨ (HasValue F b v ∧ v ≠ 0)) (hc : (fpVal F c).isNan = false) :
    ∀ r, r = (if c = infBits F (!(sa ^^ b.msb)) then (nanBits F, 0x10) else (infBits F (sa ^^ b.msb), 0)) →
      fpFma F mode (infBits F sa) b c = r ∧ fpFma F mode b (infBits F sa) c = r := by
  rintro _ rfl
  have hinf := fpVal_infBits F sa
  have hnan : (fpVal F (infBits F sa)).isNan = false := by rw [hinf]; rfl
  obtain ⟨hbn, ⟨hl, hl'⟩, hr, hr'⟩ := infinite_product (sa := sa) hb
  rw [fpFma_of_valid hnan hbn hc (hinf.symm ▸ hl), fpFma_of_valid hbn hnan hc (hinf.symm ▸ hr), hinf, hl', hr',
    valAdd_inf_left _ hc]
  exact ⟨rfl, rfl⟩

theorem fpFma_inf_addend (ha : HasValue F a u) (hb : HasValue F b v) :
    fpFma F mode a b (infBits F sa) = (infBits F sa, 0) := by
  obtain ⟨n, e, hva, -, -⟩ := ha.exists_fin
  obtain ⟨n', e', hvb, -, -⟩ := hb.exists_fin
  rw [fpFma_fin hva hvb (by rw [fpVal_infBits]; rfl), fpVal_infBits, infBits_eq]; rfl

theorem fpFma_zero (ha : HasValue F a u) (hb : HasValue F b v) (hc : HasValue F c w) (h : u * v + w = 0) :
    fpFma F mode a b c =
      (zeroBits F (if u * v = 0 ∧ (a.msb ^^ b.msb) = c.msb then c.msb else decide (mode = .rdn)), 0) := by
  obtain ⟨n, e, hva, hu, hn⟩ := ha.exists_fin
  obtain ⟨n', e', hvb, hv, hn'⟩ := hb.exists_fin
  obtain ⟨n'', e'', hvc, hw, hn''⟩ := hc.exists_fin
  have hprod : u * v = (signedMant (a.msb ^^ b.msb) (n * n') : ℤ) * 2 ^ (e + e') := by
    rw [hu, hv, signedMant_cast, signedMant_cast, signedMant_cast, ← signReal_mul_signReal, zpow_add₀ (by norm_num)]
    push_cast; ring
  have hiff : (n * n' = 0 ∧ n'' = 0 ∧ (a.msb ^^ b.msb) = c.msb) ↔ (u * v = 0 ∧ (a.msb ^^ b.msb) = c.msb) := by
    have hw0 (h0 : u * v = 0) : w = 0 := by rwa [h0, zero_add] at h
    rw [Nat.mul_eq_zero, ← hn, ← hn', ← mul_eq_zero, ← hn'']
    exact ⟨fun ⟨h1, _, h2⟩ => ⟨h1, h2⟩, fun ⟨h1, h2⟩ => ⟨h1, hw0 h1, h2⟩⟩
  rw [fpFma_fin hva hvb (by rw [hvc]; rfl), hvc, valAdd_of_sum_zero (by rw [← hprod, ← hw, h])]
  refine congrArg (fun s => (zeroBits F s, (0 : FFlags))) ?_
  by_cases hz : u * v = 0 ∧ (a.msb ^^ b.msb) = c.msb
  · rw [if_pos (hiff.2 hz), if_pos hz, hz.2]
  · rw [if_neg (mt hiff.1 hz), if_neg hz]

end rows

/-! ### The conversions (R222, R245, R246) -/

theorem fpFromInt_zero (F : Fmt) (mode : RoundingMode) : fpFromInt F mode 0 = (zeroBits F false, 0) := by
  rw [fpFromInt, if_pos rfl, zeroBits_eq]; rfl

theorem fpNarrow_inf (mode : RoundingMode) (s : Bool) : fpNarrow mode (infBits .double s) = (infBits .single s, 0) := by
  simp only [fpNarrow, fpVal_infBits, ← infBits_eq]; rfl

theorem fpNarrow_zero (mode : RoundingMode) (s : Bool) :
    fpNarrow mode (zeroBits .double s) = (zeroBits .single s, 0) := by
  simp only [fpNarrow, fpVal_zeroBits, if_true, ← zeroBits_eq]; rfl

theorem fpWiden_inf (s : Bool) : fpWiden (infBits .single s) = (infBits .double s, 0) := by
  simp only [fpWiden, fpVal_infBits, ← infBits_eq]; rfl

theorem fpWiden_zero (s : Bool) : fpWiden (zeroBits .single s) = (zeroBits .double s, 0) := by
  simp only [fpWiden, fpVal_zeroBits, if_true, ← zeroBits_eq]; rfl

/-- Settles O42: row by row, as R146 and R147 list them. -/
theorem specialOperands : Obligations.SpecialOperands := by
  intro F mode a b c sa sb u v w
  exact ⟨fpAdd_inf_inf, fpAdd_inf_fin, fpAdd_zero_zero, fpAdd_cancel, fpSub_eq, fpMul_inf_inf, fpMul_inf_fin,
    fpMul_inf_zero, fpMul_zero_inf, fpMul_zero_fin, fpDiv_inf_inf, fpDiv_zero_zero, fpDiv_inf_fin, fpDiv_fin_zero,
    fpSqrt_inf.1, fpSqrt_inf.2, fpSqrt_zero, fpSqrt_neg, fpFma_inf_zero, fpFma_inf_product, fpFma_inf_addend,
    fpFma_zero, fpFromInt_zero F mode, fpNarrow_inf mode sa, fpNarrow_zero mode sa, fpWiden_inf sa, fpWiden_zero sa⟩


end Sys2Proof.Machine
end

section
/-! The words of the spec's examples (R170, R273, R301, R320, R341, R345), and the completion of the arithmetic
instructions (R170 to R179), of minimum and maximum (R180 to R183) and of sign injection (R280 to R286). -/

namespace Sys2Proof.Machine

/-! ### Words of the examples -/

/-- R109: the word of an instruction decodes to it. -/
theorem decodeWord_of_encode {w : Insn} {i : Instr} (h : encode i = w) : decodeWord w = .instr i :=
  h ▸ decodeOfEncode i

/-- Settles O3: each word is the encoding of its instruction, and decoding is the inverse of encoding. -/
theorem sanityWords : Obligations.SanityWords :=
  ⟨decodeWord_of_encode rfl, decodeWord_of_encode rfl, decodeWord_of_encode rfl, decodeWord_of_encode rfl,
    decodeWord_of_encode rfl, decodeWord_of_encode rfl, decodeWord_of_encode rfl, decodeWord_of_encode rfl⟩

/-! ### Add, subtract, multiply, divide and square root (R170 to R179) -/

/-- Settles O27: each instruction ends, at its mode, with the numerics' result delivered to `f[rd]`. -/
theorem arithmeticCompletes : Obligations.ArithmeticCompletes := by
  refine ⟨numericsOf_ieee754 rfl, fun _ => numericsOf_ieee754, fun s rd rs1 rs2 rm mode hf hm => ⟨?single, ?double⟩⟩
  case single =>
    exact ⟨completesFS_of_rounded rfl hf hm rfl rfl, completesFS_of_rounded rfl hf hm rfl rfl,
      completesFS_of_rounded rfl hf hm rfl rfl, completesFS_of_rounded rfl hf hm rfl rfl,
      completesFS_of_rounded rfl hf hm rfl rfl⟩
  case double =>
    intro hD
    have hp {i : Instr} (h64 : i.rv64Only = false) (hA : i.inA = false) := presentIn_of_hasD (i := i) h64 hA hD
    exact ⟨completesFD_of_rounded (hp rfl rfl) hf hm hD rfl rfl, completesFD_of_rounded (hp rfl rfl) hf hm hD rfl rfl,
      completesFD_of_rounded (hp rfl rfl) hf hm hD rfl rfl, completesFD_of_rounded (hp rfl rfl) hf hm hD rfl rfl,
      completesFD_of_rounded (hp rfl rfl) hf hm hD rfl rfl⟩

/-! ### The completion of an instruction without a rounding mode (R155) -/

section completes
variable {i : Instr} {rd : FReg} {s : State} (hp : i.presentIn s.cfg = true) (hf : s.mstatus.fs ≠ 0)
include hp hf

theorem completesFS_of_framed {r : BitVec 32 × FFlags} (hexec : exec i s = fpFrame i s (deliverS rd r s)) :
    CompletesFS i rd r s :=
  ⟨_, hexec.trans (fpFrame_of_ready hp hf), finishF_wrote (fitF_box _ _)⟩

theorem completesFD_of_framed (hD : s.cfg.hasD = true) {r : BitVec 64 × FFlags}
    (hexec : exec i s = fpFrame i s (deliverD rd r s)) : CompletesFD i rd r s :=
  ⟨_, hexec.trans (fpFrame_of_ready hp hf), finishF_wrote (fitF_of_hasD hD _)⟩

end completes

/-! ### Sign injection (R280 to R286) -/

/-- R280: the top bit cleared, then set to `neg`, is `neg` over the bits below. -/
theorem replace_topBit {n : Nat} (neg : Bool) (a : BitVec (1 + n)) :
    (a &&& ~~~ BitVec.twoPow (1 + n) n) ||| (if neg then BitVec.twoPow (1 + n) n else 0) =
      BitVec.ofBool neg ++ a.extractLsb' 0 n := by
  ext k hk
  rw [BitVec.getElem_append]
  by_cases h : k < n
  · cases neg <;> simp [h, h.ne, BitVec.getLsbD_eq_getElem hk]
  · obtain rfl : k = n := by omega
    cases neg <;> simp

theorem fpWithSign_single (neg : Bool) (a : BitVec 32) :
    fpWithSign .single neg a = BitVec.ofBool neg ++ a.extractLsb' 0 31 := replace_topBit (n := 31) neg a

theorem fpWithSign_double (neg : Bool) (a : BitVec 64) :
    fpWithSign .double neg a = BitVec.ofBool neg ++ a.extractLsb' 0 63 := replace_topBit (n := 63) neg a

section signed
variable {i : Instr} {rd : FReg} {s : State} {neg : Bool} (hp : i.presentIn s.cfg = true) (hf : s.mstatus.fs ≠ 0)
include hp hf

theorem completesFS_of_withSign {a : BitVec 32}
    (hexec : exec i s = fpFrame i s (deliverS rd (fpWithSign .single neg a, flagNone) s)) :
    CompletesFS i rd (BitVec.ofBool neg ++ a.extractLsb' 0 31, flagNone) s :=
  completesFS_of_framed hp hf (fpWithSign_single neg a ▸ hexec)

theorem completesFD_of_withSign (hD : s.cfg.hasD = true) {a : BitVec 64}
    (hexec : exec i s = fpFrame i s (deliverD rd (fpWithSign .double neg a, flagNone) s)) :
    CompletesFD i rd (BitVec.ofBool neg ++ a.extractLsb' 0 63, flagNone) s :=
  completesFD_of_framed hp hf hD (fpWithSign_double neg a ▸ hexec)

end signed

/-- Settles O29: minimum and maximum deliver `fpMinMax`; sign injection delivers `fpWithSign`, whose sign bit is the top
bit of the operands. -/
theorem minMaxAndSignInjectionComplete : Obligations.MinMaxAndSignInjectionComplete := by
  intro s rd rs1 rs2 hf
  have hp {i : Instr} (h64 : i.rv64Only = false) (hA : i.inA = false) (hD : s.cfg.hasD = true) :=
    presentIn_of_hasD (i := i) h64 hA hD
  refine ⟨completesFS_of_framed rfl hf rfl, completesFS_of_framed rfl hf rfl, fun hD => ⟨?_, ?_⟩, ?single, ?double⟩
  · exact completesFD_of_framed (hp rfl rfl hD) hf hD rfl
  · exact completesFD_of_framed (hp rfl rfl hD) hf hD rfl
  case single =>
    rintro _ _ rfl rfl
    simp only [← BitVec.msb_eq_getLsbD_last (w := 32)]
    exact ⟨completesFS_of_withSign rfl hf rfl, completesFS_of_withSign rfl hf rfl, completesFS_of_withSign rfl hf rfl⟩
  case double =>
    rintro hD _ _ rfl rfl
    simp only [← BitVec.msb_eq_getLsbD_last (w := 64)]
    exact ⟨completesFD_of_withSign (hp rfl rfl hD) hf hD rfl, completesFD_of_withSign (hp rfl rfl hD) hf hD rfl,
      completesFD_of_withSign (hp rfl rfl hD) hf hD rfl⟩

end Sys2Proof.Machine
end

section
/-! The completion of the compares (R200 to R206) and of classify (R211, R212), the bits of the class mask (R210), and the
value of a pattern by its fields (R130 to R132). -/

namespace Sys2Proof.Machine

/-! ### The completion of an instruction that writes a narrow value to `x[rd]` (R155, R207) -/

/-- R11, R15: zero extension of what fits in 32 bits is the same at both widths. -/
theorem zext_of_le (c : Config) {w : Nat} (hw : w ≤ 32) (v : BitVec w) : zext c v = v.setWidth 64 := by
  refine fit_of_lt_space ?_
  have hv : v.toNat < 2 ^ 32 := v.isLt.trans_le (Nat.pow_le_pow_right (by norm_num) hw)
  have hspace : 2 ^ 32 ≤ c.space := by unfold Config.space; split <;> norm_num
  rw [BitVec.toNat_setWidth_of_le (by omega)]
  exact hv.trans_le hspace

theorem setWidth_ofBool (b : Bool) : (BitVec.ofBool b).setWidth 64 = if b then 1 else 0 := by cases b <;> rfl

section completes
variable {i : Instr} {rd : XReg} {fl : FFlags} {s : State} (hp : i.presentIn s.cfg = true) (hf : s.mstatus.fs ≠ 0)
include hp hf

theorem completesX_of_framed {v : Word} (hv : fit s.cfg v = v)
    (hexec : exec i s = fpFrame i s (.next (finishX rd v fl s))) : CompletesX i rd v fl s :=
  ⟨_, hexec.trans (fpFrame_of_ready hp hf), finishX_wrote hv⟩

theorem completesX_of_zext {w : Nat} (hw : w ≤ 32) {v : BitVec w}
    (hexec : exec i s = fpFrame i s (.next (finishX rd (zext s.cfg v) fl s))) :
    CompletesX i rd (v.setWidth 64) fl s :=
  zext_of_le s.cfg hw v ▸ completesX_of_framed hp hf (fit_zext _ _) hexec

theorem completesX_of_ofBool {b : Bool}
    (hexec : exec i s = fpFrame i s (.next (finishX rd (zext s.cfg (BitVec.ofBool b)) fl s))) :
    CompletesX i rd (if b then 1 else 0) fl s :=
  setWidth_ofBool b ▸ completesX_of_zext hp hf (by norm_num) hexec

end completes

/-! ### The compares (R200 to R206) -/

/-- Settles O30: each compare delivers the truth value of `fpCompare` as one bit, zero-extended. -/
theorem comparesComplete : Obligations.ComparesComplete := by
  refine fun s rd rs1 rs2 hf => ⟨?single, ?double⟩
  case single =>
    rintro rel _ rfl
    refine ⟨?_, ?_, ?_⟩ <;> rintro rfl <;> exact completesX_of_ofBool rfl hf rfl
  case double =>
    rintro hD rel _ rfl
    refine ⟨?_, ?_, ?_⟩ <;> rintro rfl <;> exact completesX_of_ofBool (presentIn_of_hasD rfl rfl hD) hf rfl

/-! ### The classes (R132, R210) -/

/-- The class that a value has in a format (R132, R210): an integer significand with the implicit bit is normal. -/
def valClass (F : Fmt) : Val → FpClass
  | .nan signaling => if signaling then .signalingNan else .quietNan
  | .inf neg => if neg then .negInf else .posInf
  | .fin neg m _ =>
    if m = 0 then if neg then .negZero else .posZero
    else if m < 2 ^ F.fracBits then if neg then .negSubnormal else .posSubnormal
    else if neg then .negNormal else .posNormal

theorem fpFrac_lt (F : Fmt) (a : BitVec F.width) : fpFrac F a < 2 ^ F.fracBits := Nat.mod_lt _ (Nat.two_pow_pos _)

/-- The class of a pattern is that of its value. -/
theorem fpClassOf_eq_valClass (F : Fmt) (a : BitVec F.width) : fpClassOf F a = valClass F (fpVal F a) := by
  simp only [fpClassOf, fpVal]
  by_cases hmax : fpExp F a = fpExpMax F
  · by_cases h0 : fpFrac F a = 0
    · simp only [if_pos hmax, if_pos h0, valClass]
    · simp only [if_pos hmax, if_neg h0, valClass]
      cases (fpFrac F a).testBit (F.fracBits - 1) <;> rfl
  by_cases hE : fpExp F a = 0
  · by_cases h0 : fpFrac F a = 0
    · simp only [if_neg hmax, if_pos hE, if_pos h0, valClass]
    · simp only [if_neg hmax, if_pos hE, if_neg h0, if_pos (fpFrac_lt F a), valClass]
  · have h0 : 2 ^ F.fracBits + fpFrac F a ≠ 0 := by positivity
    simp only [if_neg hmax, if_neg hE, if_neg h0, if_neg (Nat.not_lt.2 (Nat.le_add_right _ _)), valClass]

/-- What each class says of a value (R132, R210). -/
def HasClass (F : Fmt) (v : Val) : FpClass → Prop
  | .negInf => v = .inf true
  | .negNormal => ∃ m e, v = .fin true m e ∧ 2 ^ F.fracBits ≤ m
  | .negSubnormal => ∃ m e, v = .fin true m e ∧ 0 < m ∧ m < 2 ^ F.fracBits
  | .negZero => ∃ e, v = .fin true 0 e
  | .posZero => ∃ e, v = .fin false 0 e
  | .posSubnormal => ∃ m e, v = .fin false m e ∧ 0 < m ∧ m < 2 ^ F.fracBits
  | .posNormal => ∃ m e, v = .fin false m e ∧ 2 ^ F.fracBits ≤ m
  | .posInf => v = .inf false
  | .signalingNan => v = .nan true
  | .quietNan => v = .nan false

/-- A value has its class. -/
theorem hasClass_valClass (F : Fmt) (v : Val) : HasClass F v (valClass F v) := by
  cases v with
  | nan signaling => cases signaling <;> exact rfl
  | inf neg => cases neg <;> exact rfl
  | fin neg m e =>
    simp only [valClass]
    split_ifs with h0 hs hlt hs hs
    · subst h0 hs; exact ⟨e, rfl⟩
    · rw [Bool.not_eq_true] at hs; subst h0 hs; exact ⟨e, rfl⟩
    · subst hs; exact ⟨m, e, rfl, Nat.pos_of_ne_zero h0, hlt⟩
    · rw [Bool.not_eq_true] at hs; subst hs; exact ⟨m, e, rfl, Nat.pos_of_ne_zero h0, hlt⟩
    · subst hs; exact ⟨m, e, rfl, Nat.not_lt.1 hlt⟩
    · rw [Bool.not_eq_true] at hs; subst hs; exact ⟨m, e, rfl, Nat.not_lt.1 hlt⟩

theorem valClass_fin_zero (F : Fmt) (neg : Bool) (e : ℤ) :
    valClass F (.fin neg 0 e) = if neg then .negZero else .posZero := by
  rw [valClass, if_pos rfl]

theorem valClass_fin_subnormal {F : Fmt} {m : ℕ} (h0 : 0 < m) (hlt : m < 2 ^ F.fracBits) (neg : Bool) (e : ℤ) :
    valClass F (.fin neg m e) = if neg then .negSubnormal else .posSubnormal := by
  rw [valClass, if_neg h0.ne', if_pos hlt]

theorem valClass_fin_normal {F : Fmt} {m : ℕ} (hle : 2 ^ F.fracBits ≤ m) (neg : Bool) (e : ℤ) :
    valClass F (.fin neg m e) = if neg then .negNormal else .posNormal := by
  rw [valClass, if_neg ((Nat.two_pow_pos _).trans_le hle).ne', if_neg hle.not_gt]

/-- The classes exclude one another. -/
theorem hasClass_iff {F : Fmt} {v : Val} {c : FpClass} : HasClass F v c ↔ valClass F v = c := by
  refine ⟨fun h => ?_, fun h => h ▸ hasClass_valClass F v⟩
  cases c with
  | negInf | posInf | signalingNan | quietNan => cases h; rfl
  | negZero | posZero => obtain ⟨e, rfl⟩ := h; exact valClass_fin_zero ..
  | negSubnormal | posSubnormal => obtain ⟨m, e, rfl, h0, hlt⟩ := h; exact valClass_fin_subnormal h0 hlt ..
  | negNormal | posNormal => obtain ⟨m, e, rfl, hle⟩ := h; exact valClass_fin_normal hle ..

/-! ### The bits of the mask (R210) -/

/-- The position of the bit of a class in the mask (R210). -/
def classBit : FpClass → Nat
  | .negInf => 0
  | .negNormal => 1
  | .negSubnormal => 2
  | .negZero => 3
  | .posZero => 4
  | .posSubnormal => 5
  | .posNormal => 6
  | .posInf => 7
  | .signalingNan => 8
  | .quietNan => 9

theorem classBit_lt (c : FpClass) : classBit c < 10 := by cases c <;> decide

theorem classBit_injective : Function.Injective classBit := by
  intro c d h
  cases c <;> cases d <;> cases h <;> rfl

theorem fpClassMask_eq_twoPow (c : FpClass) : fpClassMask c = BitVec.twoPow 10 (classBit c) := by cases c <;> rfl

/-- The bit of a pattern in the mask says, both ways, what the value of the pattern is. -/
theorem hasClass_fpVal_iff {F : Fmt} {a : BitVec F.width} (c : FpClass) :
    HasClass F (fpVal F a) c ↔ classBit (fpClassOf F a) = classBit c := by
  rw [hasClass_iff, fpClassOf_eq_valClass, classBit_injective.eq_iff]

/-! ### The value of a pattern by its fields (R130 to R132) -/

/-- R132: all ones in the exponent. -/
theorem fpVal_fpPack_expMax {F : Fmt} {neg : Bool} {T : ℕ} (hT : T < 2 ^ F.fracBits) :
    fpVal F (fpPack F neg (fpExpMax F) T) = if T = 0 then .inf neg else .nan (!T.testBit (F.fracBits - 1)) := by
  have hE := fpExpMax_lt F
  simp only [fpVal, fpExp_fpPack hE hT, fpFrac_fpPack hE hT, msb_fpPack hE hT, if_true]

section fields
variable {F : Fmt} {neg : Bool} {E : BitVec F.expBits} {T : BitVec F.fracBits} {a : BitVec F.width}
  (ha : a.toNat = (BitVec.ofBool neg ++ E ++ T).toNat)
include ha

theorem eq_fpPack_of_fields : a = fpPack F neg E.toNat T.toNat := by
  refine BitVec.eq_of_toNat_eq ?_
  rw [ha, fpPack_toNat E.isLt T.isLt, BitVec.toNat_append, BitVec.toNat_append, BitVec.toNat_ofBool,
    ← Nat.shiftLeft_add_eq_or_of_lt E.isLt, ← Nat.shiftLeft_add_eq_or_of_lt T.isLt, Nat.shiftLeft_eq, Nat.shiftLeft_eq]

/-- R132, for the fields of a pattern. -/
theorem fpVal_of_fields :
    (E = 0 → fpVal F a = .fin neg T.toNat (F.emin - F.fracBits)) ∧
    (E ≠ 0 → E ≠ BitVec.allOnes F.expBits →
      fpVal F a = .fin neg (2 ^ F.fracBits + T.toNat) (E.toNat - (F.emax + F.fracBits))) ∧
    (E = BitVec.allOnes F.expBits → fpVal F a = if T = 0 then .inf neg else .nan (!T.msb)) := by
  have hmax : E = BitVec.allOnes F.expBits ↔ E.toNat = fpExpMax F := by
    rw [← BitVec.toNat_inj, BitVec.toNat_allOnes]; rfl
  have hE0 : E = 0 ↔ E.toNat = 0 := BitVec.toNat_inj.symm
  have hT0 : T = 0 ↔ T.toNat = 0 := BitVec.toNat_inj.symm
  rw [eq_fpPack_of_fields ha]
  refine ⟨fun h0 => ?_, fun h0 h1 => ?_, fun h1 => ?_⟩
  · have h1 : E.toNat ≠ fpExpMax F := by rw [hE0.1 h0]; cases F <;> decide
    rw [fpVal_fpPack E.isLt T.isLt h1, if_pos (hE0.1 h0)]
  · rw [fpVal_fpPack E.isLt T.isLt (mt hmax.2 h1), if_neg (mt hE0.2 h0), sub_sub]
  · rw [hmax.1 h1, fpVal_fpPack_expMax T.isLt, BitVec.testBit_toNat, BitVec.msb_eq_getLsbD_last]
    simp only [hT0]

end fields

/-- Settles O31: the mask is the bit of the class of the value; the fields of a pattern are those of `fpVal`. -/
theorem classifyCompletes : Obligations.ClassifyCompletes := by
  refine ⟨fun s rd rs1 hf => ⟨?_, fun hD => ?_⟩, fun F a => ?bits, ?single, ?double⟩
  · exact completesX_of_zext rfl hf (by norm_num) rfl
  · exact completesX_of_zext (presentIn_of_hasD rfl rfl hD) hf (by norm_num) rfl
  case bits =>
    exact ⟨classBit (fpClassOf F a), classBit_lt _, fpClassMask_eq_twoPow _, hasClass_fpVal_iff .signalingNan,
      hasClass_fpVal_iff .quietNan, hasClass_fpVal_iff .negInf, hasClass_fpVal_iff .posInf,
      hasClass_fpVal_iff .negZero, hasClass_fpVal_iff .posZero, hasClass_fpVal_iff .negNormal,
      hasClass_fpVal_iff .posNormal, hasClass_fpVal_iff .negSubnormal, hasClass_fpVal_iff .posSubnormal⟩
  case single =>
    rintro neg E T _ rfl
    exact fpVal_of_fields (F := .single) rfl
  case double =>
    rintro neg E T _ rfl
    exact fpVal_of_fields (F := .double) rfl

end Sys2Proof.Machine
end

section
/-! The completion of the conversions and moves between the register files (R220 to R253). -/

namespace Sys2Proof.Machine

/-! ### Widths and halves (R11, R15, R221, R222, R250) -/

theorem fit_of_rv64 {c : Config} (hx : c.xlen = .rv64) (v : Word) : fit c v = v := by simp only [fit, hx]

/-- R221: a result of all 64 bits is delivered as it is. -/
theorem sext_of_rv64 {c : Config} (hx : c.xlen = .rv64) (v : Word) : sext c v = v := by
  rw [sext, fit_of_rv64 hx, BitVec.signExtend_eq]

theorem readXLow_eq_extractLsb' (s : State) (i : XReg) : readXLow s i = (readX s i).extractLsb' 0 32 :=
  BitVec.setWidth_eq_extractLsb' (by norm_num)

theorem readFLow_eq_extractLsb' (s : State) (i : FReg) : readFLow s i = (readF s i).extractLsb' 0 32 :=
  BitVec.setWidth_eq_extractLsb' (by norm_num)

/-- R109, D17: an instruction of RV64. -/
theorem presentIn_of_rv64 {i : Instr} {c : Config} (hA : i.inA = false) (hx : c.xlen = .rv64)
    (hD : i.inD = false ∨ c.hasD = true) : i.presentIn c = true := by
  simpa [presentIn_iff, hx, hA, ← Bool.not_eq_true, ← imp_iff_not_or] using hD

/-! ### The completion of an instruction with a rounding mode that writes `x[rd]` (R155, R221) -/

section completes
variable {i : Instr} {rd : XReg} {rm : BitVec 3} {s : State} {mode : RoundingMode} (hp : i.presentIn s.cfg = true)
  (hf : s.mstatus.fs ≠ 0) (hm : resolveRm rm (fcsrFrm s.fcsr) = some mode)
include hp hf hm

theorem completesX_of_rounded {w : Nat} {r : BitVec w × FFlags} {k : RoundingMode → Out}
    (hexec : exec i s = fpRounded i rm s k) (hk : k mode = deliverX rd r s) :
    CompletesX i rd (sext s.cfg r.1) r.2 s :=
  ⟨_, (hexec.trans (fpRounded_of_ready hp hf hm)).trans hk, finishX_wrote (fit_sext _ _)⟩

theorem completesX_of_rounded_rv64 (hx : s.cfg.xlen = .rv64) {r : BitVec 64 × FFlags} {k : RoundingMode → Out}
    (hexec : exec i s = fpRounded i rm s k) (hk : k mode = deliverX rd r s) : CompletesX i rd r.1 r.2 s :=
  sext_of_rv64 hx r.1 ▸ completesX_of_rounded hp hf hm hexec hk

end completes

/-! ### The conversions to and from integers (R220 to R242) -/

/-- Settles O32: each conversion ends, at its mode, with the numerics' integer delivered sign-extended to `x[rd]`. -/
theorem floatToIntegerCompletes : Obligations.FloatToIntegerCompletes := by
  refine fun s rd rs1 rm mode hf hm => ⟨fun r => ⟨?_, ?_, fun hD => ?_, fun hD => ?_⟩,
    fun hx r => ⟨?_, ?_, fun hD => ?_, fun hD => ?_⟩⟩ <;> rintro rfl
  · exact completesX_of_rounded rfl hf hm rfl rfl
  · exact completesX_of_rounded rfl hf hm rfl rfl
  · exact completesX_of_rounded (presentIn_of_hasD rfl rfl hD) hf hm rfl rfl
  · exact completesX_of_rounded (presentIn_of_hasD rfl rfl hD) hf hm rfl rfl
  · exact completesX_of_rounded_rv64 (presentIn_of_rv64 rfl hx (.inl rfl)) hf hm hx rfl rfl
  · exact completesX_of_rounded_rv64 (presentIn_of_rv64 rfl hx (.inl rfl)) hf hm hx rfl rfl
  · exact completesX_of_rounded_rv64 (presentIn_of_rv64 rfl hx (.inr hD)) hf hm hx rfl rfl
  · exact completesX_of_rounded_rv64 (presentIn_of_rv64 rfl hx (.inr hD)) hf hm hx rfl rfl

/-- Settles O33: each conversion ends, at its mode, with the numerics' result delivered to `f[rd]`. -/
theorem integerToFloatCompletes : Obligations.IntegerToFloatCompletes := by
  rintro s rd rs1 rm mode hf hm _ _ rfl rfl
  simp only [← readXLow_eq_extractLsb']
  refine ⟨?_, ?_, fun hx => ⟨?_, ?_⟩, fun hD => ⟨?_, ?_, fun hx => ⟨?_, ?_⟩⟩⟩
  · exact completesFS_of_rounded rfl hf hm rfl rfl
  · exact completesFS_of_rounded rfl hf hm rfl rfl
  · exact completesFS_of_rounded (presentIn_of_rv64 rfl hx (.inl rfl)) hf hm rfl rfl
  · exact completesFS_of_rounded (presentIn_of_rv64 rfl hx (.inl rfl)) hf hm rfl rfl
  · exact completesFD_of_rounded (presentIn_of_hasD rfl rfl hD) hf hm hD rfl rfl
  · exact completesFD_of_rounded (presentIn_of_hasD rfl rfl hD) hf hm hD rfl rfl
  · exact completesFD_of_rounded (presentIn_of_rv64 rfl hx (.inr hD)) hf hm hD rfl rfl
  · exact completesFD_of_rounded (presentIn_of_rv64 rfl hx (.inr hD)) hf hm hD rfl rfl

/-! ### The conversions between the formats, and the moves (R245, R246, R250 to R253) -/

/-- Settles O34: the conversions have a rounding mode, the moves none; a move delivers the bits it read. -/
theorem formatConversionsAndMovesComplete : Obligations.FormatConversionsAndMovesComplete := by
  refine ⟨fun s rd rs1 rm mode hD hf hm => ⟨?_, ?_⟩, fun s fr xr hf => ?_⟩
  · exact completesFS_of_rounded (presentIn_of_hasD rfl rfl hD) hf hm rfl rfl
  · exact completesFD_of_rounded (presentIn_of_hasD rfl rfl hD) hf hm hD rfl rfl
  · rw [← readFLow_eq_extractLsb', ← readXLow_eq_extractLsb']
    refine ⟨completesX_of_framed rfl hf (fit_sext _ _) rfl, completesFS_of_framed rfl hf rfl, fun hD hx => ⟨?_, ?_⟩⟩
    · rw [← sext_of_rv64 hx (readF s fr)]
      exact completesX_of_framed (presentIn_of_rv64 rfl hx (.inr hD)) hf (fit_sext _ _) rfl
    · exact completesFD_of_framed (presentIn_of_rv64 rfl hx (.inr hD)) hf hD rfl

end Sys2Proof.Machine
end

section
/-! The conversions of patterns to integers (R139, R220), and the conversions that are exact (R222, R245, R246). -/

namespace Sys2Proof.Machine

/-! ### The integer to which a mode takes a rational (R32, R139) -/

/-- Of the integers within one half of a real, with an even one where the real is halfway, there is one. -/
theorem nearest_even_unique {r : ℝ} {i j : ℤ} (hi : |r - i| ≤ 1 / 2 ∧ (|r - i| = 1 / 2 → i % 2 = 0))
    (hj : |r - j| ≤ 1 / 2 ∧ (|r - j| = 1 / 2 → j % 2 = 0)) : i = j := by
  wlog hlt : i < j generalizing i j
  · obtain h | h := (not_lt.1 hlt).eq_or_lt
    · exact h.symm
    · exact (this hj hi h).symm
  obtain ⟨hi1, hi2⟩ := abs_le.1 hi.1
  obtain ⟨hj1, hj2⟩ := abs_le.1 hj.1
  obtain rfl : j = i + 1 := by
    have hle : ((j - i : ℤ) : ℝ) ≤ (1 : ℤ) := by push_cast; linarith
    have := Int.cast_le.1 hle
    omega
  push_cast at hj hj1 hj2
  have hi0 := hi.2 (by rw [abs_of_nonneg] <;> linarith)
  have hj0 := hj.2 (by rw [abs_of_nonpos] <;> linarith)
  omega

/-- An integer is taken to itself. -/
theorem roundsTo_intCast (mode : RoundingMode) (i : ℤ) : RoundsTo mode i i := by
  cases mode with
  | rne => norm_num [RoundsTo]
  | rtz => simp [RoundsTo]
  | rdn => simp [RoundsTo]
  | rup => simp [RoundsTo]
  | rmm =>
    have h : ⌈(-(1 / 2) : ℚ)⌉ = 0 := by norm_num [Int.ceil_eq_iff]
    norm_num [RoundsTo, sub_eq_add_neg, h]

theorem roundsTo_rtz_of_nonpos {q : ℚ} {i : ℤ} (hq : q ≤ 0) : RoundsTo .rtz q i ↔ i = ⌈q⌉ := by
  obtain rfl | hlt := hq.eq_or_lt
  · simp [RoundsTo]
  · rw [RoundsTo, if_neg (not_le.2 hlt)]

theorem roundsTo_rmm_of_nonpos {q : ℚ} {i : ℤ} (hq : q ≤ 0) : RoundsTo .rmm q i ↔ i = ⌈q - 1 / 2⌉ := by
  obtain rfl | hlt := hq.eq_or_lt
  · have h1 : ⌊(2⁻¹ : ℚ)⌋ = 0 := by norm_num [Int.floor_eq_iff]
    have h2 : ⌈(-2⁻¹ : ℚ)⌉ = 0 := by norm_num [Int.ceil_eq_iff]
    simp [RoundsTo, h1, h2]
  · rw [RoundsTo, if_neg (not_le.2 hlt)]

section roundInt
variable {mode : RoundingMode} {neg : Bool} {m : Mag}

theorem roundInt_cast (mode : RoundingMode) (neg : Bool) (m : Mag) :
    (roundInt mode neg m : ℝ) = signReal neg * rint mode neg m := signedMant_cast neg _

/-- A magnitude taken down is a signed real taken to the integer on the side of zero. -/
theorem roundInt_of_towardsZero (hd : TowardsZero mode neg) (hp : m.Proper) :
    roundInt mode neg m = if neg then ⌈signReal neg * magReal m⌉ else ⌊signReal neg * magReal m⌋ := by
  rw [roundInt, rint_of_towardsZero hd hp]
  cases neg <;> simp [signedMant, signReal, Int.ceil_neg, Int.natCast_floor_eq_floor (magReal_nonneg m)]

/-- A magnitude taken up is a signed real taken to the integer on the other side. -/
theorem roundInt_of_awayFromZero (hd : AwayFromZero mode neg) (hp : m.Proper) :
    roundInt mode neg m = if neg then ⌊signReal neg * magReal m⌋ else ⌈signReal neg * magReal m⌉ := by
  rw [roundInt, rint_of_awayFromZero hd hp]
  cases neg <;> simp [signedMant, signReal, Int.floor_neg, Int.natCast_ceil_eq_ceil (magReal_nonneg m)]

/-- R32: ties to the larger magnitude is one half more, then down. -/
theorem rint_rmm_eq (hp : m.Proper) (neg : Bool) : rint .rmm neg m = ⌊magReal m + 1 / 2⌋₊ := by
  obtain ⟨hk, htie⟩ := rint_rmm hp neg
  obtain ⟨h1, h2⟩ := abs_le.1 hk
  have h0 := magReal_nonneg m
  refine ((Nat.floor_eq_iff (by linarith)).2 ⟨by linarith, lt_of_le_of_ne (by linarith) fun he => ?_⟩).symm
  have := htie (by rw [abs_of_nonpos] <;> linarith)
  linarith

theorem roundInt_rmm (hp : m.Proper) : roundInt .rmm neg m =
    if neg then ⌈signReal neg * magReal m - 1 / 2⌉ else ⌊signReal neg * magReal m + 1 / 2⌋ := by
  have h0 : 0 ≤ magReal m + 1 / 2 := by linarith [magReal_nonneg m]
  rw [roundInt, rint_rmm_eq hp, ← neg_neg (_ - _), Int.ceil_neg]
  cases neg
  · simp only [signedMant, signReal, Bool.false_eq_true, if_false, one_mul, Int.natCast_floor_eq_floor h0]
  · simp only [signedMant, signReal, if_true, Int.natCast_floor_eq_floor h0]
    congr 2; ring

theorem roundInt_rne (hp : m.Proper) :
    |signReal neg * magReal m - roundInt .rne neg m| ≤ 1 / 2 ∧
      (|signReal neg * magReal m - roundInt .rne neg m| = 1 / 2 → roundInt .rne neg m % 2 = 0) := by
  have hdist : |signReal neg * magReal m - roundInt .rne neg m| = |(rint .rne neg m : ℝ) - magReal m| := by
    rw [roundInt_cast, ← mul_sub, abs_mul, abs_signReal, one_mul, abs_sub_comm]
  rw [hdist]
  obtain ⟨hk, htie⟩ := rint_rne hp neg
  refine ⟨hk, fun h => ?_⟩
  have := htie h
  cases neg <;> simp only [roundInt, signedMant, Bool.false_eq_true, if_false, if_true] <;> omega

/-- R139: the mode takes the signed real to the integer that `roundInt` gives, and to no other. -/
theorem eq_roundInt_of_roundsTo {q : ℚ} {i : ℤ} (hp : m.Proper) (hq : (q : ℝ) = signReal neg * magReal m)
    (h : RoundsTo mode q i) : i = roundInt mode neg m := by
  have h0 := magReal_nonneg m
  have hpos (hn : neg = false) : 0 ≤ q := by
    rw [← Rat.cast_nonneg (K := ℝ), hq, hn]; simpa [signReal] using h0
  have hneg (hn : neg = true) : q ≤ 0 := by
    rw [← Rat.cast_nonpos (K := ℝ), hq, hn]; simpa [signReal] using h0
  cases mode with
  | rne =>
    refine nearest_even_unique ?_ (roundInt_rne hp)
    have hcast : |(q : ℝ) - i| = (|q - i| : ℚ) := by push_cast; rfl
    have hhalf : (1 / 2 : ℝ) = (1 / 2 : ℚ) := by norm_num
    rw [← hq, hcast, hhalf, Rat.cast_le, Rat.cast_inj]
    exact h
  | rtz =>
    rw [roundInt_of_towardsZero (.inl rfl) hp, ← hq, Rat.floor_cast, Rat.ceil_cast]
    cases neg with
    | false => rwa [RoundsTo, if_pos (hpos rfl)] at h
    | true => exact (roundsTo_rtz_of_nonpos (hneg rfl)).1 h
  | rdn =>
    rw [RoundsTo, ← Rat.floor_cast (α := ℝ), hq] at h
    cases neg with
    | false => exact h.trans (roundInt_of_towardsZero (.inr (.inl ⟨rfl, rfl⟩)) hp).symm
    | true => exact h.trans (roundInt_of_awayFromZero (.inl ⟨rfl, rfl⟩) hp).symm
  | rup =>
    rw [RoundsTo, ← Rat.ceil_cast (α := ℝ), hq] at h
    cases neg with
    | false => exact h.trans (roundInt_of_awayFromZero (.inr ⟨rfl, rfl⟩) hp).symm
    | true => exact h.trans (roundInt_of_towardsZero (.inr (.inr ⟨rfl, rfl⟩)) hp).symm
  | rmm =>
    have hfloor : ⌊(q : ℝ) + 1 / 2⌋ = ⌊q + 1 / 2⌋ := by rw [← Rat.floor_cast (α := ℝ)]; push_cast; rfl
    have hceil : ⌈(q : ℝ) - 1 / 2⌉ = ⌈q - 1 / 2⌉ := by rw [← Rat.ceil_cast (α := ℝ)]; push_cast; rfl
    rw [roundInt_rmm hp, ← hq, hfloor, hceil]
    cases neg with
    | false => rwa [RoundsTo, if_pos (hpos rfl)] at h
    | true => exact (roundsTo_rmm_of_nonpos (hneg rfl)).1 h

/-- R139: the integer is exact when the magnitude is one. -/
theorem magIsInt_iff_roundInt (hp : m.Proper) :
    magIsInt m = true ↔ (roundInt mode neg m : ℝ) = signReal neg * magReal m := by
  have hs : signReal neg ≠ 0 := by cases neg <;> norm_num [signReal]
  rw [roundInt_cast, mul_right_inj' hs, magIsInt_iff hp]
  constructor
  · intro h
    rw [rint_of_natCast hp h, h]
  · intro h
    rw [magFloor_eq hp, ← h, Nat.floor_natCast]

end roundInt

/-! ### The conversion to an integer (R220) -/

theorem intLo_eq (n : ℕ) (signed : Bool) : intLo n signed = if signed then -2 ^ (n - 1) else 0 := by
  cases signed <;> simp [intLo]

theorem intHi_eq (n : ℕ) (signed : Bool) :
    intHi n signed = if signed then 2 ^ (n - 1) - 1 else 2 ^ n - 1 := by
  cases signed <;> simp [intHi]

theorem intLo_le_intHi (n : ℕ) (signed : Bool) : intLo n signed ≤ intHi n signed := by
  have h1 := Nat.two_pow_pos (n - 1)
  have h2 := Nat.two_pow_pos n
  cases signed <;> simp only [intLo, intHi, Bool.false_eq_true, if_false, if_true] <;> omega

section toInt
variable {F : Fmt} {mode : RoundingMode} {a : BitVec F.width} {n : ℕ} {signed : Bool}

theorem fpToInt_of_nan (h : (fpVal F a).isNan = true) :
    fpToInt F mode a n signed = (BitVec.ofInt n (intHi n signed), flagNV) := by
  rw [fpToInt, Val.eq_nan_of_isNan h]

theorem fpToInt_of_inf {neg : Bool} (h : fpVal F a = .inf neg) : fpToInt F mode a n signed =
    (BitVec.ofInt n (if neg then intLo n signed else intHi n signed), flagNV) := by
  rw [fpToInt, h]

/-- R220: a finite pattern, by the integer to which the mode takes its value. -/
theorem fpToInt_of_roundsTo {i : ℤ} (hfin : (fpVal F a).isFinite = true) (hi : RoundsTo mode (fpVal F a).toRat i) :
    fpToInt F mode a n signed =
      if intHi n signed < i then (BitVec.ofInt n (intHi n signed), flagNV)
      else if i < intLo n signed then (BitVec.ofInt n (intLo n signed), flagNV)
      else (BitVec.ofInt n i, if (i : ℚ) = (fpVal F a).toRat then flagNone else flagNX) := by
  cases hv : fpVal F a with
  | nan sg => rw [hv] at hfin; cases hfin
  | inf neg => rw [hv] at hfin; cases hfin
  | fin neg k e =>
    rw [hv] at hi
    have hp := magOf_proper k e
    have hq : ((Val.fin neg k e).toRat : ℝ) = signReal neg * magReal (magOf k e) := by
      rw [toRat_fin, signedMant_cast, magReal_magOf, mul_assoc]
    obtain rfl := eq_roundInt_of_roundsTo hp hq hi
    have hexact : magIsInt (magOf k e) = true ↔ (roundInt mode neg (magOf k e) : ℚ) = (Val.fin neg k e).toRat := by
      rw [magIsInt_iff_roundInt hp, ← hq]; exact_mod_cast Iff.rfl
    simp only [fpToInt, hv, ← hexact, flagIf, Bool.not_eq_true', ← Bool.not_eq_true, ite_not]

end toInt

/-- Settles O46: a finite pattern goes by the integer to which the mode takes its value. -/
theorem integerResultsAreRoundedOrSaturated : Obligations.IntegerResultsAreRoundedOrSaturated := by
  rintro F mode a n signed lo hi - hlo hhi
  rw [← intLo_eq] at hlo
  rw [← intHi_eq] at hhi
  subst hlo hhi
  refine ⟨?_, fpToInt_of_inf, fun hfin i hi => ⟨fun h => ?_, fun h => ?_, fun h1 h2 => ?_⟩⟩
  · rintro (h | h)
    · exact fpToInt_of_nan h
    · exact fpToInt_of_inf h
  · exact (fpToInt_of_roundsTo hfin hi).trans (if_pos h)
  · exact (fpToInt_of_roundsTo hfin hi).trans
      ((if_neg (h.le.trans (intLo_le_intHi n signed)).not_gt).trans (if_pos h))
  · exact (fpToInt_of_roundsTo hfin hi).trans ((if_neg h2.not_gt).trans (if_neg h1.not_gt))

/-! ### A pattern whose value is known exactly (R132, R137, R143) -/

/-- R143: an operation that sets no flag gives its exact result. -/
theorem hasValue_of_flagNone {F : Fmt} {op : RoundingMode → BitVec F.width × FFlags} {q : ℝ} (hop : ExactResult F op q)
    {mode : RoundingMode} (hfl : (op mode).2 = flagNone) : HasValue F (op mode).1 q := by
  obtain ⟨hover, hin⟩ := overflowAndUnderflow F op q hop mode
  by_cases h : Overflows F mode q
  · rw [hover h (decide (q < 0)) decide_eq_true_iff] at hfl
    cases hfl
  · obtain ⟨v, hv, -⟩ := hin h
    have hbits := (roundedResultsBracketTheExactOne F op q hop v).2.2.2 mode hv (by rw [hfl]; rfl)
    rwa [← hbits]

/-- R134, R137: rounding any form of the value of a finite pattern gives the pattern. -/
theorem fpRound_of_fin {F : Fmt} {a : BitVec F.width} {neg : Bool} {k : ℕ} {e : ℤ} {m : Mag}
    (hv : fpVal F a = .fin neg k e) (hk : k ≠ 0) (hp : m.Proper) (hm : magReal m = k * 2 ^ e) (mode : RoundingMode) :
    fpRound F mode neg m = (a, flagNone) := by
  have hr : magReal m = magReal (magOf k e) := hm.trans (magReal_magOf k e).symm
  have h0 : 0 < magReal m := hr ▸ magReal_magOf_pos hk e
  have hulp := ulpExp_of_fin hv (hm ▸ magLog2_isLog2 hp h0)
  have hval : HasValue F a (signReal neg * magReal m) :=
    hasValue_iff.2 ⟨neg, k, e, hv, by rw [signedMant_cast, mul_assoc, hm]⟩
  have hle := hval.abs_le_largest
  rw [abs_mul, abs_signReal, one_mul, abs_of_pos h0] at hle
  have hlt : magReal m < 2 ^ (F.emax + 1) := hle.trans_lt (sub_lt_self _ (by positivity))
  rw [fpRound_of_count hp h0 (by rw [hulp, hm]) hlt, hulp, fpEnc_of_fin hv hk]

/-- R132: a zero has one pattern of each sign. -/
theorem eq_zeroBits_of_fpVal {F : Fmt} {b : BitVec F.width} {neg : Bool} {e : ℤ} (h : fpVal F b = .fin neg 0 e) :
    b = zeroBits F neg := by
  obtain ⟨hs, ⟨hE, hT, -⟩ | ⟨-, hT, -⟩⟩ := fpVal_eq_fin h
  · rw [zeroBits_eq, ← fpPack_fields F b, hs, hE, hT]; rfl
  · exact absurd hT (by positivity)

/-! ### The conversions that are exact (R220, R222, R245, R246) -/

/-- R220, R222: a 32-bit integer through double precision. -/
theorem fpToInt_fpFromInt {z : ℤ} {signed : Bool} (hlo : intLo 32 signed ≤ z) (hhi : z ≤ intHi 32 signed)
    (habs : |z| ≤ 2 ^ 32) (m m' : RoundingMode) :
    fpToInt .double m' (fpFromInt .double m z).1 32 signed = (BitVec.ofInt 32 z, flagNone) := by
  have hexact : HasValue .double (fpFromInt .double m z).1 z :=
    hasValue_of_flagNone (.fromInt z) (fpFromInt_double_flags m habs)
  obtain ⟨hfin, hval⟩ := hexact
  have hq : (fpVal .double (fpFromInt .double m z).1).toRat = z := by
    rw [← Rat.cast_inj (α := ℝ), Rat.cast_intCast]; exact hval
  rw [fpToInt_of_roundsTo hfin (hq ▸ roundsTo_intCast m' z), if_neg hhi.not_gt, if_neg hlo.not_gt, if_pos hq.symm]

theorem Val.isSignaling_of_not_nan {x : Val} (h : x.isNan = false) : x.isSignaling = false := by
  cases x with
  | nan sg => cases h
  | inf neg => rfl
  | fin neg k e => rfl

/-- R245, R246: a single that is not a NaN through double precision. -/
theorem fpNarrow_fpWiden {a : BitVec 32} (h : (fpVal .single a).isNan = false) (mode : RoundingMode) :
    fpNarrow mode (fpWiden a).1 = (a, flagNone) := by
  cases hv : fpVal .single a with
  | nan sg => rw [hv] at h; cases h
  | inf neg => rw [eq_infBits_of_fpVal hv, fpWiden_inf, fpNarrow_inf]; rfl
  | fin neg k e =>
    by_cases hk : k = 0
    · subst hk
      rw [eq_zeroBits_of_fpVal hv, fpWiden_zero, fpNarrow_zero]; rfl
    · have hpos := magReal_magOf_pos hk e
      rw [magReal_magOf] at hpos
      have hval : HasValue .double (fpWiden a).1 (signReal neg * (k * 2 ^ e)) :=
        fpWiden_exact (hasValue_iff.2 ⟨neg, k, e, hv, by rw [signedMant_cast, mul_assoc]⟩)
      obtain ⟨k', e', hv', heq, hzero⟩ := hval.exists_fin
      rw [hval.msb_eq hpos] at hv' heq
      have hs : signReal neg ≠ 0 := by cases neg <;> norm_num [signReal]
      rw [signedMant_cast, mul_assoc, mul_right_inj' hs] at heq
      have hk' : k' ≠ 0 := mt hzero.2 (mul_ne_zero hs hpos.ne')
      simp only [fpNarrow, hv', if_neg hk']
      exact fpRound_of_fin hv hk (magOf_proper k' e') ((magReal_magOf k' e').trans heq.symm) mode

/-- Settles O48: the conversions to double set no flag, so they give the exact value, which the conversions back keep. -/
theorem exactConversionsRoundTrip : Obligations.ExactConversionsRoundTrip := by
  refine ⟨fun m m' n => ⟨?_, ?_, ?signed, ?unsigned⟩, fun mode a h => ⟨?_, fpNarrow_fpWiden h mode⟩⟩
  · exact fpFromInt_double_flags m (abs_toInt_le n)
  · exact fpFromInt_double_flags m (abs_toNat_le n)
  case signed =>
    have hlo := BitVec.le_toInt n
    have hhi := BitVec.toInt_lt (x := n)
    refine (fpToInt_fpFromInt ?_ ?_ (abs_toInt_le n) m m').trans (by rw [BitVec.ofInt_toInt])
    · rw [intLo_eq, if_pos rfl]; exact hlo
    · rw [intHi_eq, if_pos rfl]; exact Int.le_sub_one_of_lt hhi
  case unsigned =>
    have hhi : (n.toNat : ℤ) < 2 ^ 32 := by exact_mod_cast n.isLt
    have hn : BitVec.ofInt 32 n.toNat = n := by rw [BitVec.ofInt_natCast, BitVec.ofNat_toNat, BitVec.setWidth_eq]
    refine (fpToInt_fpFromInt ?_ ?_ (abs_toNat_le n) m m').trans (by rw [hn])
    · exact Int.natCast_nonneg _
    · rw [intHi_eq, if_neg Bool.false_ne_true]; exact Int.le_sub_one_of_lt hhi
  · exact (fpWiden_flags a).trans (by rw [Val.isSignaling_of_not_nan h]; rfl)

end Sys2Proof.Machine
end

section
/-! The completion of the floating-point loads and stores (R271 to R274), and a store followed by a load of the same
address (R275): the state after a store has the stored bytes where the load looks for them. -/

namespace Sys2Proof.Machine

/-! ### Loads that complete (R61, R271, R272, R335) -/

/-- R61: the low half of what a read of 4 bytes gives is the low half of the value that the bytes spell. -/
theorem low_half_of_read (v : Word) : ((v.setWidth (8 * 4)).setWidth 64).setWidth 32 = v.extractLsb' 0 32 := by
  rw [BitVec.setWidth_setWidth_of_le _ (by norm_num), BitVec.setWidth_eq, BitVec.setWidth_eq_extractLsb' (by norm_num)]

/-- R330: an integer load that may be made delivers `f` of the value it reads. -/
theorem completesInt_of_loadThen {s : State} {i : Instr} {a v : Word} {n : Nat} {rd : XReg} {f : Word → Word}
    (hn : n ≤ 8) (ha : AccessAligned s a n) (hl : Loads s a n v) (hfit : ∀ w, fit s.cfg (f w) = f w)
    (hexec : exec i s = loadThen s false a n fun w => finishInt rd (f w) s) :
    CompletesInt i rd (f ((v.setWidth (8 * n)).setWidth 64)) s.reservation s :=
  ⟨_, hexec.trans (loadThen_of_loads hn (misalignedTraps_eq_false.2 ha) hl), finishInt_wrote (hfit _)⟩

/-- R335: the completion of `lw`. -/
theorem completesInt_lw {s : State} {rd rs1 : XReg} {imm : BitVec 12} {v : Word}
    (ha : AccessAligned s (effAddr s rs1 imm) 4) (hl : Loads s (effAddr s rs1 imm) 4 v) :
    CompletesInt (.lw rd rs1 imm) rd (sext s.cfg (v.extractLsb' 0 32)) s.reservation s :=
  low_half_of_read v ▸ completesInt_of_loadThen (f := fun w => sext s.cfg (w.setWidth 32)) (by norm_num) ha hl
    (fun _ => fit_sext _ _) rfl

/-- R270: past its frame, a floating-point load that may be made goes on with the value it reads. -/
theorem exec_of_fpFrame_loadThen {s : State} {i : Instr} {a v : Word} {n : Nat} {k : Word → State} (hn : n ≤ 8)
    (hp : i.presentIn s.cfg = true) (hf : s.mstatus.fs ≠ 0) (ha : AccessAligned s a n) (hl : Loads s a n v)
    (hexec : exec i s = fpFrame i s (loadThen s false a n k)) :
    exec i s = .next (k ((v.setWidth (8 * n)).setWidth 64)) :=
  (hexec.trans (fpFrame_of_ready hp hf)).trans (loadThen_of_loads hn (misalignedTraps_eq_false.2 ha) hl)

/-- Settles O21: both loads end with the value read delivered to `f[rd]`, of which `flw` boxes the low half. -/
theorem fpLoadsComplete : Obligations.FpLoadsComplete := by
  refine fun s rd rs1 imm v hf => ⟨fun ha hl => ?flw, fun hD ha hl => ?fld⟩
  case flw =>
    refine ⟨_, exec_of_fpFrame_loadThen (by norm_num) rfl hf ha hl rfl, ?_⟩
    rw [low_half_of_read]
    exact finishF_wrote (fitF_box _ _)
  case fld =>
    refine ⟨_, exec_of_fpFrame_loadThen (by norm_num) (presentIn_of_hasD rfl rfl hD) hf ha hl rfl, ?_⟩
    rw [BitVec.setWidth_eq, BitVec.setWidth_eq]
    exact finishF_wrote (fitF_of_hasD hD _)

/-! ### Stores that complete (R61, R273, R274) -/

/-- R61, R37: a store followed by the draw of `FS` and the advance of `pc` wrote the low `n` bytes of `v`, whatever the
rest of the datum `w`. -/
theorem advance_settleFs_storeBytes_stored {s : State} {a v w : Word} {n : Nat} (hn : n ≤ 8)
    (hw : ∀ k < n, byteOf w k = byteOf v k) : Stored a v n s (advance (settleFs (storeBytes s a w n))) where
  bytes k hk := hw k hk ▸ (storeBytes_stored hn).1 k hk
  others := (storeBytes_stored (v := w) hn).2
  x _ := rfl
  f _ := rfl
  fcsr := rfl
  fs := ⟨fun hne => absurd rfl hne, fun _ => drawnFs_cases (storeBytes s a w n)⟩
  mstatus := ⟨rfl, rfl, rfl⟩
  trap := ⟨rfl, rfl, rfl, rfl, rfl, rfl⟩
  reservation := rfl
  pc := readPc_advance _

/-- R270: a floating-point store that may be made stores the low `n` bytes of its datum. -/
theorem exists_stored_of_fpFrame {s : State} {i : Instr} {a v w : Word} {n : Nat} (hn : n ≤ 8)
    (hp : i.presentIn s.cfg = true) (hf : s.mstatus.fs ≠ 0) (ha : AccessAligned s a n) (hs : Storable s a n)
    (hw : ∀ k < n, byteOf w k = byteOf v k)
    (hexec : exec i s = fpFrame i s (storeThen s a w n fun t => advance (settleFs t))) :
    ∃ t, exec i s = .next t ∧ Stored a v n s t :=
  ⟨_, (hexec.trans (fpFrame_of_ready hp hf)).trans (storeThen_of_storable (misalignedTraps_eq_false.2 ha) hs),
    advance_settleFs_storeBytes_stored hn hw⟩

/-- R273: the low 4 bytes of `f[i]` are those of its low half. -/
theorem byteOf_readFLow (s : State) (i : FReg) :
    ∀ k < 4, byteOf ((readFLow s i).setWidth 64) k = byteOf (readF s i) k := by
  refine byteOf_eq_iff_low.2 fun b hb => ?_
  simp [readFLow, show b < 64 by omega, show b < 32 by omega]

/-- Settles O22: past their frames, `fsw` stores the low half of `f[rs2]` and `fsd` all of it. -/
theorem fpStoresComplete : Obligations.FpStoresComplete := by
  refine fun s rs2 rs1 imm hf => ⟨fun ha hs => ?fsw, fun hD ha hs => ?fsd⟩
  case fsw =>
    exact exists_stored_of_fpFrame (by norm_num) rfl hf ha hs (byteOf_readFLow s rs2) rfl
  case fsd =>
    have hp : (Instr.fsd rs2 rs1 imm).presentIn s.cfg = true := presentIn_of_hasD rfl rfl hD
    exact exists_stored_of_fpFrame (by norm_num) hp hf ha hs (fun _ _ => rfl) rfl

/-! ### A load after a store of the same address (R275) -/

/-- R37: a store leaves `FS` as it was or 3, so a floating-point instruction may follow. -/
theorem Stored.fs_ne_zero {s t : State} {a v : Word} {n : Nat} (h : Stored a v n s t) (hf : s.mstatus.fs ≠ 0) :
    t.mstatus.fs ≠ 0 := by
  obtain hfs | hfs := h.fs.2 h.fcsr <;> rw [hfs]
  · exact hf
  · decide

/-- R61, R275: after a store to readable bytes, a load with the same base and offset may be made and finds the datum. -/
theorem Stored.loads_effAddr {s t : State} {rs1 : XReg} {imm : BitVec 12} {v : Word} {n : Nat}
    (h : Stored (effAddr s rs1 imm) v n s t) (ha : AccessAligned s (effAddr s rs1 imm) n)
    (hr : ∀ k < n, readableAt s.cfg (byteAddr s.cfg (effAddr s rs1 imm) k) = true) :
    AccessAligned t (effAddr t rs1 imm) n ∧ Loads t (effAddr t rs1 imm) n v := by
  have haddr : effAddr t rs1 imm = effAddr s rs1 imm := by rw [effAddr, effAddr, h.trap.cfg, h.x rs1]
  rw [haddr, AccessAligned, Loads, h.trap.cfg]
  exact ⟨ha, fun k hk => ⟨hr k hk, h.bytes k hk⟩⟩

/-- Settles O25: the load finds the datum of the store, of which `flw` and `lw` deliver the low half. -/
theorem storeThenLoadRestores : Obligations.StoreThenLoadRestores := by
  refine fun s rd rs2 xd rs1 imm hf => ⟨fun hD ha hs hr => ?double, fun ha hs hr => ?single⟩
  case double =>
    obtain ⟨t, ht, hst⟩ := (fpStoresComplete s rs2 rs1 imm hf).2 hD ha hs
    obtain ⟨ha', hl⟩ := hst.loads_effAddr ha hr
    obtain ⟨u, hu, hwrote⟩ :=
      (fpLoadsComplete t rd rs1 imm _ (hst.fs_ne_zero hf)).2 (hst.trap.cfg ▸ hD) ha' hl
    exact ⟨t, u, ht, hu, (hwrote.f rd).trans (if_pos rfl)⟩
  case single =>
    obtain ⟨t, ht, hst⟩ := (fpStoresComplete s rs2 rs1 imm hf).1 ha hs
    obtain ⟨ha', hl⟩ := hst.loads_effAddr ha hr
    obtain ⟨u, hu, hwroteF⟩ := (fpLoadsComplete t rd rs1 imm _ (hst.fs_ne_zero hf)).1 ha' hl
    obtain ⟨v, hv, hwroteX⟩ := completesInt_lw (rd := xd) ha' hl
    rw [readFLow_eq_extractLsb', ← hst.trap.cfg]
    exact ⟨t, u, v, ht, hu, (hwroteF.f rd).trans (if_pos rfl), hv,
      fun hxd => (hwroteX.x xd).trans (if_pos ⟨rfl, hxd⟩)⟩

end Sys2Proof.Machine
end

section
/-! What the expansions of the pseudo-instructions do (R122): each is one instruction at chosen operands, so its
completion is that of the instruction, with the result brought to the form that the spec gives it. -/

namespace Sys2Proof.Machine

/-! ### Sign injection with one operand twice (R292 to R295) -/

/-- R281, R282: the top bit of a pattern over the bits below it is the pattern. -/
theorem topBit_append_low {n : Nat} (a : BitVec (1 + n)) : BitVec.ofBool (a.getLsbD n) ++ a.extractLsb' 0 n = a := by
  ext k hk
  rw [BitVec.getElem_append]
  by_cases h : k < n
  · simp [h, BitVec.getLsbD_eq_getElem hk]
  · obtain rfl : k = n := by omega
    simp

/-- R283, R284: the negated top bit of a pattern over the bits below it is the pattern with the top bit flipped. -/
theorem not_topBit_append_low {n : Nat} (a : BitVec (1 + n)) :
    BitVec.ofBool (!a.getLsbD n) ++ a.extractLsb' 0 n = a ^^^ BitVec.twoPow (1 + n) n := by
  conv_rhs => rw [← topBit_append_low a]
  ext k hk
  rw [BitVec.getElem_append, BitVec.getElem_xor, BitVec.getElem_append]
  by_cases h : k < n
  · simp [h, h.ne]
  · obtain rfl : k = n := by omega
    simp

/-- R292 to R295: sign injection copies with its own sign, and flips the sign bit with the opposite one. -/
theorem signPseudosComplete (s : State) (rd rs1 : FReg) (hf : s.mstatus.fs ≠ 0) :
    CompletesFS (pseudoFmvS rd rs1) rd (readFS s rs1, flagNone) s ∧
    CompletesFS (pseudoFnegS rd rs1) rd (readFS s rs1 ^^^ 0x80000000, flagNone) s ∧
    (s.cfg.hasD = true →
      CompletesFD (pseudoFmvD rd rs1) rd (readFD s rs1, flagNone) s ∧
      CompletesFD (pseudoFnegD rd rs1) rd (readFD s rs1 ^^^ 0x8000000000000000, flagNone) s) := by
  obtain ⟨-, -, -, hsingle, hdouble⟩ := minMaxAndSignInjectionComplete s rd rs1 rs1 hf
  obtain ⟨hmv, hneg, -⟩ := hsingle _ _ rfl rfl
  rw [topBit_append_low (n := 31)] at hmv
  rw [not_topBit_append_low (n := 31)] at hneg
  refine ⟨hmv, hneg, fun hD => ?_⟩
  obtain ⟨hmvD, hnegD, -⟩ := hdouble hD _ _ rfl rfl
  rw [topBit_append_low (n := 63)] at hmvD
  rw [not_topBit_append_low (n := 63)] at hnegD
  exact ⟨hmvD, hnegD⟩

/-! ### Access to `fcsr` and its parts (R304 to R309) -/

/-- R34, R42: from every mode, with `FS` not 0, the three floating-point registers may be accessed. -/
theorem csrAllowed_of_fp {s : State} {n : BitVec 12} {r : Csr} (hn : (n, r) ∈ csrNumbers) (hr : FpCsr r)
    (hf : s.mstatus.fs ≠ 0) : CsrAllowed s n r := by
  have hnum : n = 0x001 ∨ n = 0x002 ∨ n = 0x003 := by
    obtain rfl | rfl | rfl := hr <;> simp_all [csrNumbers]
  exact ⟨hn, by tauto, fun _ => hf⟩

/-- R303: the read column fixes the value of each of the three. -/
theorem csrReads_unique_of_fp {s : State} {v w : Word} {r : Csr} (hr : FpCsr r) (hv : CsrReads s v r)
    (hw : CsrReads s w r) : v = w := by
  obtain rfl | rfl | rfl := hr <;> exact Eq.trans hv (Eq.symm hw)

section fpCsr
variable {s : State} {rd : XReg} {n : BitVec 12} {v : Word} {r : Csr} (hn : (n, r) ∈ csrNumbers) (hr : FpCsr r)
  (hf : s.mstatus.fs ≠ 0) (hv : CsrReads s v r)
include hn hr hf hv

/-- R301: a read of one of the three by `csrrs` with `rs1` = `x0`. -/
theorem csrrs_x0_reads_fp : ∃ t, exec (.csrrs rd 0 n) s = .next t ∧ WroteXReg rd v s t ∧ CsrUntouched True s t ∧
    readPc t = nextPc s := by
  obtain ⟨t, old, ht, hold, hx, hpc, -, huntouched⟩ := csrrsCompletes s rd 0 n r (csrAllowed_of_fp hn hr hf)
  obtain rfl := csrReads_unique_of_fp hr hv hold
  obtain ⟨htrap, hres, hfreg, hmem, hfcsr, hmstatus, hfs⟩ := huntouched rfl
  exact ⟨t, ht, hx, ⟨htrap, hres, hfreg, hmem, hfcsr, hmstatus, hfs.imp_right fun h => ⟨trivial, h.2⟩⟩, hpc⟩

/-- R300: an exchange of one of the three with `x[rs1]` by `csrrw`. -/
theorem csrrw_swaps_fp (rs1 : XReg) : ∃ t, exec (.csrrw rd rs1 n) s = .next t ∧ WroteXReg rd v s t ∧
    CsrWritten r (readX s rs1) s t ∧ readPc t = nextPc s := by
  obtain ⟨t, old, ht, hold, hx, hwritten, hpc⟩ := csrrwCompletes s rd rs1 n r (csrAllowed_of_fp hn hr hf)
  obtain rfl := csrReads_unique_of_fp hr hv hold
  exact ⟨t, ht, hx, hwritten, hpc⟩

end fpCsr

/-! ### Jumps that link nothing (R324, R325) -/

/-- R320, R321: a jump to an aligned target of XLEN bits writes the link, goes there, and touches nothing else. -/
theorem jumpAndLink_wrote {rd : XReg} {target : Word} {s : State} (ha : pcAligned s.cfg target = true)
    (hfit : fit s.cfg target = target) :
    ∃ t, jumpAndLink rd target s = .next t ∧ WroteInt rd (nextPc s) s.reservation target s t := by
  obtain ⟨-, hjump⟩ | ⟨hne, -⟩ := jumpAndLink_cases rd target s
  · refine ⟨_, hjump, ?_⟩
    exact {
      x := fun i => by simp [readX_writeX]
      f := fun i => by simp
      fcsr := by simp
      mstatus := by simp
      trap := ⟨by simp, by simp, by simp, by simp, by simp, by simp⟩
      reservation := by simp
      mem := fun p => by simp
      pc := by rw [readPc_jumpTo, writeX_cfg, hfit] }
  · rw [ha] at hne; cases hne

/-- R21: what an instruction would write to `x0` does not matter. -/
theorem WroteInt.x0_value {v : Word} {r : Option Reservation} {pc : Word} {s t : State} (h : WroteInt 0 v r pc s t)
    (w : Word) : WroteInt 0 w r pc s t :=
  { h with x := fun i => by simpa using h.x i }

/-- R324, R325: a jump with the link in `x0` links nothing. -/
theorem jumpAndLink_x0_wrote {target : Word} {s : State} (ha : pcAligned s.cfg target = true)
    (hfit : fit s.cfg target = target) :
    ∃ t, jumpAndLink 0 target s = .next t ∧ WroteInt 0 0 s.reservation target s t := by
  obtain ⟨t, ht, hwrote⟩ := jumpAndLink_wrote (rd := 0) ha hfit
  exact ⟨t, ht, hwrote.x0_value 0⟩

/-- R325: with offset 0 the target of `jalr` is `x[rs1]` with bit 0 cleared. -/
theorem jalrTarget_zero (s : State) (rs1 : XReg) : jalrTarget s rs1 0 = readX s rs1 &&& ~~~ 1 := by
  simp [jalrTarget, effAddr, sext]

/-! ### `li` by `lui` (R340, R348) -/

/-- R340: the completion of `lui`. -/
theorem completesInt_lui (s : State) (rd : XReg) (u : BitVec 20) :
    CompletesInt (.lui rd u) rd (sext s.cfg (u ++ 0#12)) s.reservation s :=
  ⟨_, rfl, finishInt_wrote (fit_luiValue s.cfg u)⟩

/-- R348: when `li` is `lui`, and of which immediate. -/
theorem pseudoLi_eq_some_iff {c : Config} {rd : XReg} {v : Word} {i : Instr} :
    pseudoLi c rd v = some i ↔
      (v.extractLsb' 0 12 = 0 ∧ sext c (v.setWidth 32) = v) ∧ .lui rd (v.extractLsb' 12 20) = i := by
  simp [pseudoLi]

/-- R101, R348: bits 31:12 of a constant over 12 zero bits are its low half when its low 12 bits are zero. -/
theorem upper_append_zeros {v : Word} (h : v.extractLsb' 0 12 = 0) : v.extractLsb' 12 20 ++ 0#12 = v.setWidth 32 :=
  calc v.extractLsb' 12 20 ++ 0#12
    _ = v.extractLsb' (0 + 12) 20 ++ v.extractLsb' 0 12 := by rw [h]; rfl
    _ = v.extractLsb' 0 32 := extract_join v
    _ = v.setWidth 32 := (BitVec.setWidth_eq_extractLsb' (by norm_num)).symm

/-- Settles O35: sign injection with one operand twice, `csrrs` with `rs1` = `x0`, `csrrw`, the jumps with `rd` = `x0`,
and `lui`, each at the operands of the expansion. -/
theorem pseudoInstructionsComplete : Obligations.PseudoInstructionsComplete := by
  refine ⟨signPseudosComplete, ?reads, ?swaps, fun s off rs1 => ⟨?j, ?jr⟩, ?li⟩
  case reads =>
    rintro s rd i v hf (⟨rfl, rfl⟩ | ⟨rfl, rfl⟩ | ⟨rfl, rfl⟩)
    · exact csrrs_x0_reads_fp (r := .fcsr) (by decide) (.inr (.inr rfl)) hf rfl
    · exact csrrs_x0_reads_fp (r := .fflags) (by decide) (.inl rfl) hf rfl
    · exact csrrs_x0_reads_fp (r := .frm) (by decide) (.inr (.inl rfl)) hf rfl
  case swaps =>
    rintro s rd rs1 i v r hf (⟨rfl, rfl, rfl⟩ | ⟨rfl, rfl, rfl⟩ | ⟨rfl, rfl, rfl⟩)
    · exact csrrw_swaps_fp (by decide) (.inr (.inr rfl)) hf rfl rs1
    · exact csrrw_swaps_fp (by decide) (.inl rfl) hf rfl rs1
    · exact csrrw_swaps_fp (by decide) (.inr (.inl rfl)) hf rfl rs1
  case j => exact fun ha => jumpAndLink_x0_wrote ha (fit_fit _ _)
  case jr =>
    intro ha
    have hjr : exec (pseudoJr rs1) s = jumpAndLink 0 (readX s rs1 &&& ~~~ 1) s :=
      congrArg (jumpAndLink 0 · s) (jalrTarget_zero s rs1)
    rw [hjr]
    exact jumpAndLink_x0_wrote ha (by rw [fit_and, fit_readX])
  case li =>
    intro s rd v i hi
    obtain ⟨⟨hlow, hsext⟩, rfl⟩ := pseudoLi_eq_some_iff.1 hi
    have hlui := completesInt_lui s rd (v.extractLsb' 12 20)
    rwa [upper_append_zeros hlow, hsext] at hlui

end Sys2Proof.Machine
end

section
/-! PROOFS of the family 48_jumps: `jal` and `jalr` to an aligned target link the next instruction and go there, and
leave everything else unchanged. -/

namespace Sys2Proof.Machine

/-! ### Jumps that link (R320, R321) -/

/-- R321, R24: clearing bit 0 of an address of XLEN bits leaves XLEN bits. -/
theorem fit_jalrTarget (s : State) (rs1 : XReg) (imm : BitVec 12) :
    fit s.cfg (jalrTarget s rs1 imm) = jalrTarget s rs1 imm := by
  rw [jalrTarget, fit_and, fit_effAddr]

/-- Settles O17: both instructions are `jumpAndLink` to their target, which has XLEN bits. -/
theorem jumpsLinkAndGo : Obligations.JumpsLinkAndGo := by
  intro s rd rs1 off imm
  refine ⟨fun (ha : pcAligned s.cfg (jalTarget s off) = true) => ?jal,
    fun (ha : pcAligned s.cfg (jalrTarget s rs1 imm) = true) => ?jalr⟩
  case jal => exact jumpAndLink_wrote ha (fit_fit _ _)
  case jalr => exact jumpAndLink_wrote ha (fit_jalrTarget s rs1 imm)

end Sys2Proof.Machine
end

section
/-! Taking an exception (R360, R372, R377), `mret` (R345, R386), and the one after the other (R376): trap entry masks
`pc` into `mepc`, and an aligned `pc` is its own mask. Of all steps, only an `mret` leaves machine mode (R385). -/

namespace Sys2Proof.Machine

/-! ### Taking an exception (R372, R377) -/

/-- Settles O9: raising is trap entry, and the codes stand in the definition of `excCode`. -/
theorem trapEntry_of_exception : Obligations.TrapEntry :=
  ⟨fun e tv s hfull => ⟨_, raise_of_full hfull, trapEntry_trapped e tv s, fun _ => rfl⟩,
    rfl, rfl, rfl, rfl, rfl, rfl, rfl⟩

/-- Settles O10: of the two answers of `raise`, the terminal option has the fault. -/
theorem terminalOptionEndsTheRun : Obligations.TerminalOptionEndsTheRun := by
  intro e tv s hterm
  obtain ⟨hfull, -⟩ | ⟨-, h⟩ := raise_cases e tv s
  · rw [hterm] at hfull; cases hfull
  · exact h

/-! ### `mret` (R345, R386) -/

/-- R345: the word of `mret`. -/
theorem encode_mret : encode .mret = 0x30200073#32 := rfl

/-- R345: an `mret` executed in machine mode returns from the trap. -/
theorem exec_mret_of_machine {s : State} (hm : s.priv = .machine) : exec .mret s = .next (trapReturn s) := if_pos hm

/-- R386: `mret` is illegal in user mode. -/
theorem exec_mret_of_user {s : State} (hu : s.priv = .user) :
    exec .mret s = raise .illegalInstruction 0x30200073 s := by
  have hm : s.priv ≠ .machine := by rw [hu]; decide
  have hill : exec .mret s = illegalWord (encode .mret) s := if_neg hm
  rw [hill, encode_mret]; rfl

@[simp] theorem readPc_trapReturn (s : State) : readPc (trapReturn s) = readMepc s := fit_fit _ _

/-- Settles O12: in machine mode `mret` is `trapReturn`, which writes `pc`, the mode and `mstatus`. -/
theorem mretReturnsOrIsIllegal : Obligations.MretReturnsOrIsIllegal := by
  refine fun s => ⟨fun hm => ⟨_, exec_mret_of_machine hm, readPc_trapReturn s, ?_⟩, exec_mret_of_user⟩
  exact ⟨rfl, rfl, rfl, rfl, rfl, rfl, rfl, rfl, rfl, rfl, rfl, rfl, fun _ => rfl, fun _ => rfl, fun _ => rfl⟩

/-! ### A trap followed at once by `mret` (R376) -/

/-- Clearing the `k` lowest bits of a multiple of `2 ^ k` leaves it. -/
theorem and_not_low_of_mod_eq_zero {a : Word} {k : Nat} (h : a.toNat % 2 ^ k = 0) :
    a &&& ~~~ (BitVec.allOnes k).setWidth 64 = a := by
  ext i hi
  have hlow : i < k → a[i] = false := fun hik => by
    have hbit := congrArg (Nat.testBit · i) h
    simpa [Nat.testBit_mod_two_pow, hik, BitVec.getElem_eq_testBit_toNat] using hbit
  by_cases hik : i < k <;> simp [hik, hlow]

/-- R38: an aligned address is its own mask. -/
theorem pcMask_of_pcAligned {c : Config} {a : Word} (h : pcAligned c a = true) : pcMask c a = a := by
  unfold pcAligned at h
  unfold pcMask
  cases hi : c.ialign with
  | i16 => rw [hi] at h; exact and_not_low_of_mod_eq_zero (k := 1) (beq_iff_eq.1 h)
  | i32 => rw [hi] at h; exact and_not_low_of_mod_eq_zero (k := 2) (beq_iff_eq.1 h)

/-- R38, R372: trap entry at an aligned `pc` saves it whole. -/
theorem readMepc_trapEntry {s : State} (ha : pcAligned s.cfg s.pc = true) (e : Exc) (tv : Word) :
    readMepc (trapEntry e tv s) = readPc s := by
  rw [(trapEntry_trapped e tv s).mepc, pcMask_of_pcAligned ha, readPc]

/-- R64, R69: a fetch depends on the configuration, `pc` and the memory alone. -/
theorem fetch_congr {s t : State} (hc : t.cfg = s.cfg) (hp : readPc t = readPc s) (hm : t.mem = s.mem) :
    fetch t = fetch s := by
  unfold fetch; rw [hc, hp, hm]

/-- Settles O11: the return undoes the trap entry, in `pc` because `pc` is aligned, and in `MPP` without user mode
because the trap came from machine mode. -/
theorem trapThenReturn : Obligations.TrapThenReturn := by
  intro e tv s hfull ha hmode
  have hpc : readPc (trapReturn (trapEntry e tv s)) = readPc s :=
    (readPc_trapReturn _).trans (readMepc_trapEntry ha e tv)
  have hmpp : (if s.cfg.hasU then .user else s.priv) = if s.cfg.hasU then Priv.user else .machine := by
    cases hu : s.cfg.hasU with
    | true => rfl
    | false => exact hmode hu
  exact ⟨_, _, raise_of_full hfull, exec_mret_of_machine rfl, hpc, rfl, rfl, rfl, hmpp, rfl, rfl, rfl,
    fetch_congr rfl hpc rfl⟩

/-! ### Machine mode is left by `mret` alone (R345, R385) -/

/-- If the outcome is a next state, the mode there is machine. -/
def EndsInMachineMode (o : Out) : Prop := ∀ t, o = .next t → t.priv = .machine

theorem endsInMachineMode_next {u : State} (hu : u.priv = .machine) : EndsInMachineMode (.next u) := by
  rintro t ⟨⟩; exact hu

/-- R372: an exception is taken in machine mode. -/
theorem endsInMachineMode_raise (e : Exc) (tv : Word) (s : State) : EndsInMachineMode (raise e tv s) := by
  intro t h; rw [(raise_next h).2]; rfl

@[simp] theorem finishX_priv (rd : XReg) (v : Word) (fl : FFlags) (s : State) : (finishX rd v fl s).priv = s.priv := by
  obtain ⟨c, fs, d, h⟩ := finishX_eq rd v fl s
  rw [h, finishInt_priv]

section frames
variable {i : Instr} {s : State}

theorem endsInMachineMode_present {k : Out} (hk : EndsInMachineMode k) : EndsInMachineMode (present i s k) := by
  obtain ⟨-, h⟩ | ⟨-, h⟩ := present_cases i s k <;> rw [h]
  · exact hk
  · exact endsInMachineMode_raise _ _ _

theorem endsInMachineMode_fpFrame {k : Out} (hk : EndsInMachineMode k) : EndsInMachineMode (fpFrame i s k) := by
  obtain ⟨-, -, h⟩ | ⟨-, h⟩ := fpFrame_cases i s k <;> rw [h]
  · exact hk
  · exact endsInMachineMode_raise _ _ _

theorem endsInMachineMode_fpRounded {rm : BitVec 3} {k : RoundingMode → Out}
    (hk : ∀ mode, EndsInMachineMode (k mode)) : EndsInMachineMode (fpRounded i rm s k) := by
  refine endsInMachineMode_fpFrame ?_
  split
  · exact hk _
  · exact endsInMachineMode_raise _ _ _

theorem endsInMachineMode_csrFrame {n : BitVec 12} {k : Csr → Out} (hk : ∀ r, EndsInMachineMode (k r)) :
    EndsInMachineMode (csrFrame i n s k) := by
  intro t h
  obtain rfl | ⟨r, -, -, -, hr⟩ := csrFrame_next h
  · rfl
  · exact hk r t hr

theorem endsInMachineMode_loadThen {strict : Bool} {a : Word} {n : Nat} {k : Word → State}
    (hk : ∀ v, (k v).priv = .machine) : EndsInMachineMode (loadThen s strict a n k) := by
  intro t h
  obtain ⟨e, -, rfl⟩ | ⟨-, v, -, rfl⟩ := loadThen_next h
  · rfl
  · exact hk v

theorem endsInMachineMode_storeThen {a v : Word} {n : Nat} {k : State → State}
    (hk : (k (storeBytes s a v n)).priv = .machine) : EndsInMachineMode (storeThen s a v n k) := by
  intro t h
  obtain ⟨e, -, rfl⟩ | ⟨-, rfl⟩ | ⟨-, -, rfl⟩ := storeThen_next h
  · rfl
  · rfl
  · exact hk

theorem endsInMachineMode_intLoad {strict : Bool} {a : Word} {n : Nat} {rd : XReg} {f : Word → Word} {u : State}
    (hu : u.priv = .machine) : EndsInMachineMode (loadThen s strict a n fun v => finishInt rd (f v) u) :=
  endsInMachineMode_loadThen fun _ => (finishInt_priv _ _ _).trans hu

theorem endsInMachineMode_jumpAndLink {rd : XReg} {target : Word} (hm : s.priv = .machine) :
    EndsInMachineMode (jumpAndLink rd target s) := by
  obtain ⟨-, h⟩ | ⟨-, h⟩ := jumpAndLink_cases rd target s <;> rw [h]
  · exact endsInMachineMode_next (by simpa)
  · exact endsInMachineMode_raise _ _ _

end frames

/-- R385: from machine mode, every instruction but `mret` stays in machine mode, by the shape of the instruction. -/
theorem exec_endsInMachineMode {i : Instr} {s : State} (hm : s.priv = .machine) (hi : i ≠ .mret) :
    EndsInMachineMode (exec i s) := by
  cases i
  case mret => exact absurd rfl hi
  all_goals simp only [exec]
  case faddS | faddD | fsubS | fsubD | fmulS | fmulD | fdivS | fdivD | fsqrtS | fsqrtD | fmaddS | fmaddD | fmsubS |
      fmsubD | fnmsubS | fnmsubD | fnmaddS | fnmaddD | fcvtSW | fcvtSWu | fcvtSL | fcvtSLu | fcvtDW | fcvtDWu |
      fcvtDL | fcvtDLu | fcvtSD | fcvtDS =>
    exact endsInMachineMode_fpRounded fun _ => endsInMachineMode_next hm
  case fcvtWS | fcvtWuS | fcvtLS | fcvtLuS | fcvtWD | fcvtWuD | fcvtLD | fcvtLuD =>
    exact endsInMachineMode_fpRounded fun _ => endsInMachineMode_next ((finishX_priv _ _ _ s).trans hm)
  case fminS | fminD | fmaxS | fmaxD | fmvWX | fmvDX | fsgnjS | fsgnjD | fsgnjnS | fsgnjnD | fsgnjxS | fsgnjxD =>
    exact endsInMachineMode_fpFrame (endsInMachineMode_next hm)
  case feqS | feqD | fltS | fltD | fleS | fleD | fclassS | fclassD | fmvXW | fmvXD =>
    exact endsInMachineMode_fpFrame (endsInMachineMode_next ((finishX_priv _ _ _ s).trans hm))
  case fence | fenceI => exact endsInMachineMode_next hm
  case flw | fld => exact endsInMachineMode_fpFrame (endsInMachineMode_loadThen fun _ => hm)
  case fsw | fsd => exact endsInMachineMode_fpFrame (endsInMachineMode_storeThen hm)
  case csrrw => exact endsInMachineMode_csrFrame fun r => endsInMachineMode_next (by simpa)
  case csrrs =>
    refine endsInMachineMode_csrFrame fun r => endsInMachineMode_next ?_
    split <;> simpa
  case jal | jalr => exact endsInMachineMode_jumpAndLink hm
  case lb | lbu | lh | lhu | lw => exact endsInMachineMode_intLoad hm
  case lwu | ld | lrW | lrD => exact endsInMachineMode_present (endsInMachineMode_intLoad hm)
  case lui => exact endsInMachineMode_next ((finishInt_priv _ _ s).trans hm)

/-- R20: a step that gives a state executed the instruction of the word it fetched, or took an exception. -/
theorem step_next {s t : State} (h : step s = .next t) :
    (∃ i, fetch s = .word (encode i) ∧ exec i s = .next t) ∨ ∃ e tv, t = trapEntry e tv s := by
  unfold step stepHart at h
  split at h
  · cases h
  split at h
  · next w hw =>
    unfold runWord at h
    split at h
    · next i hi =>
      obtain rfl : encode i = w := (encodeOfDecodeAndOneRow w).1 i hi
      exact .inl ⟨i, hw, h⟩
    · exact .inr ⟨_, _, (raise_next h).2⟩
    · cases h
    · cases h
    · cases h
  · exact .inr ⟨_, _, (raise_next h).2⟩
  · cases h
  · cases h

/-- Settles O57: an exception goes to machine mode, every instruction but `mret` stays there, and `mret` goes to the
mode in `MPP`. -/
theorem onlyMretLeavesMachineMode : Obligations.OnlyMretLeavesMachineMode := by
  intro s t h hm hu
  obtain ⟨i, hw, hexec⟩ | ⟨e, tv, rfl⟩ := step_next h
  · by_cases hi : i = .mret
    · subst hi
      rw [exec_mret_of_machine hm] at hexec
      cases hexec
      exact ⟨hw.trans (congrArg _ encode_mret), hu⟩
    · cases (exec_endsInMachineMode hm hi t hexec).symm.trans hu
  · cases hu

end Sys2Proof.Machine
end

section
/-! Integer loads and load-reserved that complete (R330 to R343), `lui` (R340) and the fences (R260, R261). -/

namespace Sys2Proof.Machine

/-! ### Integer loads (R61, R330 to R337) -/

/-- R61: the low `m` bits of what a read of `n` bytes gives are those of the value that the bytes spell. -/
theorem low_bits_of_read (v : Word) {n m : Nat} (hm : m ≤ 8 * n) (hn : n ≤ 8) :
    ((v.setWidth (8 * n)).setWidth 64).setWidth m = v.extractLsb' 0 m := by
  rw [BitVec.setWidth_setWidth_of_le _ (by omega), BitVec.setWidth_setWidth_of_le _ hm,
    BitVec.setWidth_eq_extractLsb' (by omega)]

/-- R61: a read of 8 bytes gives the value that they spell. -/
theorem read_doubleword {c : Config} (hx : c.xlen = .rv64) (v : Word) :
    sext c (((v.setWidth (8 * 8)).setWidth 64).setWidth 64) = v := by
  rw [BitVec.setWidth_eq, BitVec.setWidth_eq, BitVec.setWidth_eq]; exact sext_of_rv64 hx v

section loads
variable {s : State} {i : Instr} {a v : Word} {n m : Nat} {rd : XReg}

/-- R330 to R335: the completion of a load of the `m` low bits of `n` bytes, sign-extended. -/
theorem completesInt_of_signed (hn : n ≤ 8) (hm : m ≤ 8 * n) (ha : AccessAligned s a n) (hl : Loads s a n v)
    (hexec : exec i s = loadThen s false a n fun w => finishInt rd (sext s.cfg (w.setWidth m)) s) :
    CompletesInt i rd (sext s.cfg (v.extractLsb' 0 m)) s.reservation s :=
  low_bits_of_read v hm hn ▸
    completesInt_of_loadThen (f := fun w => sext s.cfg (w.setWidth m)) hn ha hl (fun _ => fit_sext _ _) hexec

/-- R332, R334, R336: the completion of a load of the `m` low bits of `n` bytes, zero-extended. -/
theorem completesInt_of_unsigned (hn : n ≤ 8) (hm : m ≤ 8 * n) (ha : AccessAligned s a n) (hl : Loads s a n v)
    (hexec : exec i s = loadThen s false a n fun w => finishInt rd (zext s.cfg (w.setWidth m)) s) :
    CompletesInt i rd (zext s.cfg (v.extractLsb' 0 m)) s.reservation s :=
  low_bits_of_read v hm hn ▸
    completesInt_of_loadThen (f := fun w => zext s.cfg (w.setWidth m)) hn ha hl (fun _ => fit_zext _ _) hexec

end loads

/-- R62: an access of one byte is aligned. -/
theorem accessAligned_byte (s : State) (a : Word) : AccessAligned s a 1 := .inl (Nat.mod_one _)

/-! ### Load-reserved (R341 to R343, R45) -/

/-- R343: the end of a load-reserved writes `x[rd]` and registers the reservation. -/
theorem finishInt_reserve_wrote {rd : XReg} {v a : Word} {n : Nat} {s : State} (hv : fit s.cfg v = v) :
    WroteInt rd v (some ⟨a, n⟩) (nextPc s) s (finishInt rd v (reserve a n s)) :=
  { finishInt_wrote (s := reserve a n s) hv with
    trap := { (finishInt_wrote (s := reserve a n s) hv).trap with } }

/-- R63, R343: a load-reserved at an aligned readable address delivers `f` of the value it reads. -/
theorem completesInt_of_reserve {s : State} {i : Instr} {a v : Word} {n : Nat} {rd : XReg} {f : Word → Word}
    (hn : n ≤ 8) (hp : i.presentIn s.cfg = true) (ha : a.toNat % n = 0) (hl : Loads s a n v)
    (hfit : ∀ w, fit s.cfg (f w) = f w)
    (hexec : exec i s = present i s (loadThen s true a n fun w => finishInt rd (f w) (reserve a n s))) :
    CompletesInt i rd (f ((v.setWidth (8 * n)).setWidth 64)) (some ⟨a, n⟩) s :=
  ⟨_, (hexec.trans (present_of_presentIn hp)).trans
      (loadThen_of_loads hn (misalignedTraps_eq_false_iff.2 (.inl ha)) hl),
    finishInt_reserve_wrote (hfit _)⟩

/-- Settles O18: every load delivers the low bits of the value it reads, past its check of the configuration. -/
theorem integerLoadsAndLoadReservedComplete : Obligations.IntegerLoadsAndLoadReservedComplete := by
  refine fun s rd rs1 imm aq rl v => ⟨fun hl => ?byte, fun ha hl => ?half, fun ha hl => ?word, fun hx ha hl => ?ld,
    fun hA ha hl => ?lrW, fun hA hx ha hl => ?lrD⟩
  case byte =>
    have ha := accessAligned_byte s (effAddr s rs1 imm)
    exact ⟨completesInt_of_signed (by norm_num) (by norm_num) ha hl rfl,
      completesInt_of_unsigned (by norm_num) (by norm_num) ha hl rfl⟩
  case half =>
    exact ⟨completesInt_of_signed (by norm_num) (by norm_num) ha hl rfl,
      completesInt_of_unsigned (by norm_num) (by norm_num) ha hl rfl⟩
  case word =>
    refine ⟨completesInt_lw ha hl, fun hx => ?lwu⟩
    have hp : (Instr.lwu rd rs1 imm).presentIn s.cfg = true := presentIn_of_rv64 rfl hx (.inl rfl)
    exact completesInt_of_unsigned (by norm_num) (by norm_num) ha hl (present_of_presentIn hp)
  case ld =>
    have hp : (Instr.ld rd rs1 imm).presentIn s.cfg = true := presentIn_of_rv64 rfl hx (.inl rfl)
    exact read_doubleword hx v ▸ completesInt_of_loadThen (f := fun w => sext s.cfg (w.setWidth 64)) (by norm_num) ha hl
      (fun _ => fit_sext _ _) (present_of_presentIn hp)
  case lrW =>
    have hp : (Instr.lrW rd rs1 aq rl).presentIn s.cfg = true := presentIn_iff.2 ⟨nofun, nofun, fun _ => hA⟩
    exact low_half_of_read v ▸ completesInt_of_reserve (f := fun w => sext s.cfg (w.setWidth 32)) (by norm_num) hp ha hl
      (fun _ => fit_sext _ _) rfl
  case lrD =>
    have hp : (Instr.lrD rd rs1 aq rl).presentIn s.cfg = true := presentIn_iff.2 ⟨fun _ => hx, nofun, fun _ => hA⟩
    have hc := completesInt_of_reserve (f := fun w => sext s.cfg (w.setWidth 64)) (by norm_num) hp ha hl
      (fun _ => fit_sext _ _) rfl
    rwa [read_doubleword hx] at hc

/-! ### `lui` and the fences (R340, R260, R261) -/

/-- R25, R262: advancing `pc` writes no register and changes nothing else. -/
theorem advance_wrote (s : State) : WroteInt 0 0 s.reservation (nextPc s) s (advance s) where
  x i := by simp
  f _ := rfl
  fcsr := rfl
  mstatus := rfl
  trap := ⟨rfl, rfl, rfl, rfl, rfl, rfl⟩
  reservation := rfl
  mem _ := rfl
  pc := readPc_advance s

/-- Settles O19: both fences are `advance`. -/
theorem luiAndFencesComplete : Obligations.LuiAndFencesComplete :=
  fun s rd _ u _ _ _ _ => ⟨completesInt_lui s rd u, ⟨_, rfl, advance_wrote s⟩, ⟨_, rfl, advance_wrote s⟩⟩

end Sys2Proof.Machine
end
